-- ==== Sys2Proof/Word.lean ====
section
/-! DEFINITION. The word types of the block: the two port value types of rule R19 (10_state.md), the u32 of every
internal wire (30_encoding.md rule R61), and the two-byte wire form of rule R47. All are bit vectors because the spec
masks, shifts and adds them; bit 0 is the least significant bit (00_scope.md rule R7). -/

namespace Sys2Proof

/-- One byte of the wire form (R47). -/
abbrev Byte := BitVec 8

/-- An unsigned 16-bit word (R7). -/
abbrev U16 := BitVec 16

/-- An unsigned 32-bit word, the width of every intermediate value (R61). -/
abbrev U32 := BitVec 32

/-- Float16Bits (R19, R46): bit 15 sign, bits 14 to 10 exponent, bits 9 to 0 mantissa. -/
abbrev Float16Bits := U16

/-- Float32Bits (R19, R45): bit 31 sign, bits 30 to 23 exponent, bits 22 to 0 mantissa. It has no byte order (R31). -/
abbrev Float32Bits := U32

/-- WIRE16 (R47): exactly two bytes, `byte0` the first of the wire form (the low byte), `byte1` the second.
A sequence of another length is no value of the type (20_memory.md rule R32). -/
structure Wire16 where
  byte0 : Byte
  byte1 : Byte
deriving DecidableEq, Repr

end Sys2Proof
end

