-- ==== Sys2Proof/Config.lean ====
section
/-! DEFINITION. The constants of the block: 00_scope.md rule R6 and 10_state.md rule R15. They are wired, and no operation
reads or writes them (R14, R40). `CLAMP_THRESHOLD` is the one parameter: its value for this hardware stands here, and an
instance of the block carries its own (Machine/State.lean, field `clampThreshold`), so that a claim can be made about every
value of it (R80, 92_eei_decisions.md D5). `T_PD` is left out: the model has no time (R121). -/

namespace Sys2Proof.Config

/-- `F32_WIDTH` (R6). -/
abbrev f32Width : Nat := 32
/-- `F16_WIDTH` (R6). -/
abbrev f16Width : Nat := 16
/-- `F32_EXP_BITS` (R6). -/
abbrev f32ExpBits : Nat := 8
/-- `F32_MANT_BITS` (R6). -/
abbrev f32MantBits : Nat := 23
/-- `F16_EXP_BITS` (R6). -/
abbrev f16ExpBits : Nat := 5
/-- `F16_MANT_BITS` (R6). -/
abbrev f16MantBits : Nat := 10
/-- `F32_BIAS` (R6). -/
abbrev f32Bias : Nat := 127
/-- `F16_BIAS` (R6). -/
abbrev f16Bias : Nat := 15
/-- `SHIFT` (R6, R15): the shift of the non-sign field, both directions. -/
abbrev shift : Nat := 13
/-- `SIGN_SHIFT` (R6, R15): the shift of the sign bit, both directions. -/
abbrev signShift : Nat := 16
/-- `WIRE_BYTES` (R6). -/
abbrev wireBytes : Nat := 2

/-- `H_NONSIGN_MASK` (R15), zero-extended to the internal width. -/
abbrev hNonsignMask : U32 := 0x7FFF#32
/-- `H_SIGN_MASK` (R15), zero-extended. -/
abbrev hSignMask : U32 := 0x8000#32
/-- `H_EXP_MASK` (R15), zero-extended. -/
abbrev hExpMask : U32 := 0x7C00#32
/-- `F_NONSIGN_MASK` (R15). -/
abbrev fNonsignMask : U32 := 0x7FFFFFFF#32
/-- `F_SIGN_MASK` (R15). -/
abbrev fSignMask : U32 := 0x80000000#32
/-- `F_EXP_MASK` (R15). -/
abbrev fExpMask : U32 := 0x7F800000#32
/-- `BIAS_UP_CONST` (R15): added by the decoder. -/
abbrev biasUpConst : U32 := 0x38000000#32
/-- `BIAS_DOWN_CONST` (R15): subtracted by the encoder. -/
abbrev biasDownConst : U32 := 0x0001C000#32
/-- `FTZ_THRESHOLD` (R15): the encoder flushes to zero below it. -/
abbrev ftzThreshold : U32 := 0x38800000#32
/-- `CLAMP_VALUE` (R15): the magnitude the clamp writes. -/
abbrev clampValue : U32 := 0x7BFF#32

/-- `CLAMP_THRESHOLD` of this hardware, the as-written literal (R80, D5). -/
abbrev clampThresholdAsWritten : U32 := 0x8E000000#32

end Sys2Proof.Config
end

