-- ==== Sys2Proof/Syntax.lean ====
section
/-! DEFINITION. The eight operations of 30_encoding.md rule R53, one constructor per row of spec/opcode_table.json; the
eight ways a caller drives the block to select one of them; and what a caller presents. No operation code exists (R54):
selection is structural, by the path that is driven, so the path stands beside the operand bits and not in them. -/

namespace Sys2Proof

/-- Which unit and path the caller drives and how it takes the result: the column "unit and path" of R53's table and the
entry "selection" of each row of spec/opcode_table.json. Ports are those of 10_state.md rule R22. -/
inductive Path where
  /-- `mantissa_resampler`, up path: `mr_up_in` is driven. -/
  | resamplerUp
  /-- `mantissa_resampler`, down path: `mr_dn_in` is driven. -/
  | resamplerDown
  /-- `exponent_bias_adjuster`, up path: `eba_up_in` is driven. -/
  | adjusterUp
  /-- `exponent_bias_adjuster`, down path: `eba_dn_in` is driven. -/
  | adjusterDown
  /-- `fp16_to_fp32_converter`: `h_in` is driven as one 16-bit word. -/
  | halfWord
  /-- `fp32_to_fp16_converter`: `f_in` is driven and the result is taken as one 16-bit word. -/
  | singleWord
  /-- `fp16_to_fp32_converter` behind the byte lanes: the two byte lanes are driven. -/
  | halfByteLanes
  /-- `fp32_to_fp16_converter` before the byte lanes: `f_in` is driven and the result is taken from the byte lanes. -/
  | singleToByteLanes
deriving DecidableEq, Repr

/-- The operand width of each path in bits (R52, R53: "operand_width" of the table's row). -/
def Path.operandWidth : Path → Nat
  | .resamplerUp => 32
  | .resamplerDown => 32
  | .adjusterUp => 32
  | .adjusterDown => 32
  | .halfWord => 16
  | .singleWord => 32
  | .halfByteLanes => 16
  | .singleToByteLanes => 32

/-- What a caller presents: a path and `width` two-valued lines whose levels are the bits of `bits`, line 0 the least
significant (R7). It is raw data, so that a presentation that fits no port can be written down and rejected by name
(20_memory.md rule R32). -/
structure Stimulus where
  path : Path
  width : Nat
  bits : Nat
deriving DecidableEq, Repr

/-- The operations (R53, R54): one constructor per mnemonic, each carrying its operand at its own type. -/
inductive Instr where
  /-- `RESAMPLE_UP` (R66). -/
  | resampleUp (x : U32)
  /-- `RESAMPLE_DOWN` (R67). -/
  | resampleDown (x : U32)
  /-- `BIAS_UP` (R70). -/
  | biasUp (x : U32)
  /-- `BIAS_DOWN` (R71). -/
  | biasDown (x : U32)
  /-- `DECODE` (R74). -/
  | decode (h : Float16Bits)
  /-- `ENCODE` (R79). -/
  | encode (i : Float32Bits)
  /-- `DECODE_BYTES`, the source's `decodeHalfToFloat` (R87). -/
  | decodeBytes (bytes : Wire16)
  /-- `ENCODE_BYTES`, the source's `encodeFloatToHalf` (R88). -/
  | encodeBytes (value : Float32Bits)
deriving DecidableEq, Repr

/-- A result word, by the column "result" of R53's table. No result carries a status or an error indicator (R13, R90). -/
inductive Result where
  /-- A `u32` of a sub-unit. -/
  | word (w : U32)
  /-- A Float32Bits. -/
  | single (f : Float32Bits)
  /-- A Float16Bits. -/
  | half (h : Float16Bits)
  /-- A WIRE16. -/
  | wire (bytes : Wire16)
deriving DecidableEq, Repr

end Sys2Proof
end

