-- ==== Sys2Proof/WellFormed.lean ====
section
/-! DEFINITION. Well-formedness. An operation has no ill-formed term: every operand pattern is legal (30_encoding.md rule
R55) and a wrong length is excluded by the operand's type (20_memory.md rule R32). What can be ill-formed is a raw
presentation, which must fit the port it drives. -/

namespace Sys2Proof

/-- As many lines as the port is wide: "nothing narrower or wider can be presented" (R32, R52). -/
def Stimulus.fitsPort (st : Stimulus) : Bool := st.width == st.path.operandWidth

/-- The number is one that `width` two-valued lines can carry (R7, R123). -/
def Stimulus.fitsLines (st : Stimulus) : Bool := decide (st.bits < 2 ^ st.width)

/-- A presentation that is an operand of the path it drives. -/
def Stimulus.wellFormed (st : Stimulus) : Bool := st.fitsPort && st.fitsLines

/-- Every operation on every operand pattern is legal (R55). -/
def Instr.wellFormed : Instr → Bool
  | .resampleUp _ => true
  | .resampleDown _ => true
  | .biasUp _ => true
  | .biasDown _ => true
  | .decode _ => true
  | .encode _ => true
  | .decodeBytes _ => true
  | .encodeBytes _ => true

end Sys2Proof
end

