-- ==== Sys2Proof/Decode.lean ====
section
/-! DEFINITION. From what a caller presents to the operation it selects, and back. The path selects the operation (30_encoding.md
rule R53) and all the lines are operand: every row of spec/opcode_table.json has mask 0, so there is nothing else to match. -/

namespace Sys2Proof

/-- Why a presentation is no operand of any operation (20_memory.md rule R32, 92_eei_decisions.md D11). -/
inductive Reject where
  /-- The number of lines is not the width of the port. -/
  | wrongWidth (path : Path) (width : Nat)
  /-- The number has a bit set above the lines presented. -/
  | bitsBeyondWidth (width : Nat) (bits : Nat)
deriving DecidableEq, Repr

/-- The operation a path performs on the operand lines `bits` (R53). The byte lanes carry `bytes[0]` on lines 7 to 0 and
`bytes[1]` on lines 15 to 8 (R47; the table's encoding "bbbbbbbbaaaaaaaa"). -/
def instrOn : Path → Nat → Instr
  | .resamplerUp, bits => .resampleUp (BitVec.ofNat 32 bits)
  | .resamplerDown, bits => .resampleDown (BitVec.ofNat 32 bits)
  | .adjusterUp, bits => .biasUp (BitVec.ofNat 32 bits)
  | .adjusterDown, bits => .biasDown (BitVec.ofNat 32 bits)
  | .halfWord, bits => .decode (BitVec.ofNat 16 bits)
  | .singleWord, bits => .encode (BitVec.ofNat 32 bits)
  | .halfByteLanes, bits => .decodeBytes ⟨BitVec.ofNat 8 bits, BitVec.ofNat 8 (bits / 256)⟩
  | .singleToByteLanes, bits => .encodeBytes (BitVec.ofNat 32 bits)

/-- Total on every presentation: the operation it selects, or the name of what is wrong with it. -/
def decodeStimulus (st : Stimulus) : Except Reject Instr :=
  if st.width = st.path.operandWidth then
    if st.bits < 2 ^ st.width then .ok (instrOn st.path st.bits)
    else .error (.bitsBeyondWidth st.width st.bits)
  else .error (.wrongWidth st.path st.width)

/-- The presentation that performs an operation: its path, the width of the port, the operand's bits (R53, R47). -/
def encodeInstr : Instr → Stimulus
  | .resampleUp x => ⟨.resamplerUp, 32, x.toNat⟩
  | .resampleDown x => ⟨.resamplerDown, 32, x.toNat⟩
  | .biasUp x => ⟨.adjusterUp, 32, x.toNat⟩
  | .biasDown x => ⟨.adjusterDown, 32, x.toNat⟩
  | .decode h => ⟨.halfWord, 16, h.toNat⟩
  | .encode i => ⟨.singleWord, 32, i.toNat⟩
  | .decodeBytes bytes => ⟨.halfByteLanes, 16, bytes.byte0.toNat + 256 * bytes.byte1.toNat⟩
  | .encodeBytes value => ⟨.singleToByteLanes, 32, value.toNat⟩

/-- DESIGN CHOICE (notes/assumptions/5.md): the path a bare word of a given width is presented on. A word selects no
operation (R53, R54). Where only a word and its width are known, they are read as presented to the whole system of R2,
whose two functions take a 16-bit and a 32-bit word. -/
def bareWordPath (nbits : Nat) : Path := if nbits == 16 then .halfWord else .singleWord

/-- A bare word as a presentation. -/
def bareWord (nbits w : Nat) : Stimulus := ⟨bareWordPath nbits, nbits, w⟩

/-- The operation read from a bare word of `nbits` bits, none where it is rejected. -/
def decodeTableWord (nbits w : Nat) : Option Instr :=
  match decodeStimulus (bareWord nbits w) with
  | .ok i => some i
  | .error _ => none

end Sys2Proof
end

