-- ==== Sys2Proof/Machine/State.lean ====
section
/-! DEFINITION. The state of a run. The BLOCK has no state: no register, flag, program counter, memory, mode or hidden state
(10_state.md rules R10 to R18, R24). What a run needs is the parameter of the instance (43_fp32_to_fp16_converter.md rule R80)
and the caller's side (70_reset_and_hazards.md rules R117 and R122): the patterns it holds on the six input ports, the
operations it will still present, and the list of results it has taken. No meaning reads the last two (notes/assumptions/1.md). -/

namespace Sys2Proof.Machine

/-- Fault reasons: none. "In a model the step outcome is always a value: there is no fault constructor" (R101). -/
inductive Fault
deriving DecidableEq, Repr

/-- Refusals. No operation on any operand raises one (R101). -/
inductive Refusal where
  /-- Raised by an arm of `exec` whose instruction has no meaning yet; no arm does. Safe: the machine stops. -/
  | notModelled (mnemonic : String)
  /-- Raised by `step` for a presentation that fits no port: not an operand of the block (R32, 93_implementation_defined.md
  U7). Safe: no hardware can be given one, and the machine stops. -/
  | notAnOperand (reason : Reject)
deriving DecidableEq, Repr

/-- The patterns present on the input ports of the four units (R22), one port per direction. -/
structure Ports where
  /-- `h_in[15:0]` of `fp16_to_fp32_converter`. -/
  hIn : Float16Bits
  /-- `f_in[31:0]` of `fp32_to_fp16_converter`. -/
  fIn : Float32Bits
  /-- `mr_up_in[31:0]` of `mantissa_resampler`. -/
  mrUpIn : U32
  /-- `mr_dn_in[31:0]` of `mantissa_resampler`. -/
  mrDnIn : U32
  /-- `eba_up_in[31:0]` of `exponent_bias_adjuster`. -/
  ebaUpIn : U32
  /-- `eba_dn_in[31:0]` of `exponent_bias_adjuster`. -/
  ebaDnIn : U32
deriving DecidableEq, Repr

/-- One operation performed and the result the caller took: `MNEMONIC(operand) = result` (R58). -/
structure Transaction where
  op : Instr
  result : Result
deriving DecidableEq, Repr

/-- The state of a run. -/
structure State where
  /-- `CLAMP_THRESHOLD` of the instance, chosen at instantiation and fixed thereafter (R80, R40). -/
  clampThreshold : U32
  /-- The caller's: the patterns it holds on the input ports (R22, R120). -/
  ports : Ports
  /-- The caller's: what it will still present, oldest first (R122). -/
  pending : List Stimulus
  /-- The caller's: the results it has taken, oldest first, the end state of a run (R122). -/
  transcript : List Transaction
deriving DecidableEq, Repr

/-- The state before any operation. There is nothing to reset (R23, R116): `CLAMP_THRESHOLD` is this hardware's literal
(R118), nothing is presented and no result has been taken. DESIGN CHOICE (notes/assumptions/3.md): every input port
carries zeros until the caller drives it. -/
def State.reset : State where
  clampThreshold := Config.clampThresholdAsWritten
  ports := ⟨0#16, 0#32, 0#32, 0#32, 0#32, 0#32⟩
  pending := []
  transcript := []

end Sys2Proof.Machine
end

