-- ==== Sys2Proof/Machine/Operands.lean ====
section
/-! DEFINITION. Operand forms: field extraction of the two converters (30_encoding.md rules R49 and R50), the sign paths, and
the assembly and emission of the two-byte wire form (20_memory.md rules R27 and R28). Wire names are those of 10_state.md
rules R20 and R21; each wire is a function of the operand present and of nothing else (R11). -/

namespace Sys2Proof.Machine

/-- `zext_32` (R8). -/
def zext32 (h : U16) : U32 := h.setWidth 32

/-- `low16(v) = v[15:0]` (R8). -/
def low16 (v : U32) : U16 := v.setWidth 16

/-- `d_nonsign` (R20, R49): the non-sign field of a half-precision word, left in place. -/
def dNonsign (h : Float16Bits) : U32 := zext32 h &&& Config.hNonsignMask

/-- `d_sign` (R20, R49). -/
def dSign (h : Float16Bits) : U32 := zext32 h &&& Config.hSignMask

/-- `d_expbits` (R20, R49). -/
def dExpbits (h : Float16Bits) : U32 := zext32 h &&& Config.hExpMask

/-- `d_sign32` (R20): the sign moved from bit 15 to bit 31. -/
def dSign32 (h : Float16Bits) : U32 := dSign h <<< Config.signShift

/-- `e_nonsign` (R21, R50): the non-sign field of a single-precision word, left in place. -/
def eNonsign (i : Float32Bits) : U32 := i &&& Config.fNonsignMask

/-- `e_sign` (R21, R50). -/
def eSign (i : Float32Bits) : U32 := i &&& Config.fSignMask

/-- `e_expbits` (R21, R50). -/
def eExpbits (i : Float32Bits) : U32 := i &&& Config.fExpMask

/-- `e_sign16` (R21): the sign moved from bit 31 to bit 15. -/
def eSign16 (i : Float32Bits) : U32 := eSign i >>> Config.signShift

/-- `word_of(bytes) = zext_16(bytes[0]) | (zext_16(bytes[1]) << 8)` (R27, R89). -/
def wordOf (bytes : Wire16) : Float16Bits := bytes.byte0.setWidth 16 ||| (bytes.byte1.setWidth 16 <<< 8)

/-- `bytes_of(h) = [h[7:0], h[15:8]]` (R28, R89). -/
def bytesOf (h : Float16Bits) : Wire16 := ⟨h.extractLsb' 0 8, h.extractLsb' 8 8⟩

end Sys2Proof.Machine
end

