-- ==== Sys2Proof/Machine/Flags.lean ====
section
/-! DEFINITION. The four 1-bit condition wires of the converters (10_state.md rules R20 and R21). They are internal wires that
select multiplexer inputs, not status flags: the block has no flags (R13). Comparisons are unsigned, on the exponent field
left in place (30_encoding.md rule R63). -/

namespace Sys2Proof.Machine

/-- `d_is_daz = (d_expbits == 0)` (R20; step 5 of R74). -/
def dIsDaz (h : Float16Bits) : Bool := dExpbits h == 0#32

/-- `e_is_ftz = (e_expbits <u 0x38800000)` (R21; step 6 of R79). -/
def eIsFtz (i : Float32Bits) : Bool := (eExpbits i).ult Config.ftzThreshold

/-- `e_is_clamp = (e_expbits >u CLAMP_THRESHOLD)` (R21; step 7 of R79). -/
def eIsClamp (threshold : U32) (i : Float32Bits) : Bool := threshold.ult (eExpbits i)

/-- `e_is_daz = (e_expbits == 0)` (R21; step 8 of R79). -/
def eIsDaz (i : Float32Bits) : Bool := eExpbits i == 0#32

/-- The two-way multiplexer `if c then a else b` (R8). -/
def mux (c : Bool) (a b : U32) : U32 := if c then a else b

end Sys2Proof.Machine
end

