-- ==== Sys2Proof/Machine/Units.lean ====
section
/-! DEFINITION. The four units as functions from input port to output port (92_eei_decisions.md D1): the two sub-units
(40_mantissa_resampler.md, 41_exponent_bias_adjuster.md) and the two converters built from them, wire by wire as 10_state.md
rules R20 and R21 name them. All values are u32 and all arithmetic is modulo 2^32 (30_encoding.md rule R61). -/

namespace Sys2Proof.Machine

/-- `mr_up_out <- x << 13` (R66). -/
def resampleUp (x : U32) : U32 := x <<< Config.shift

/-- `mr_dn_out <- x >> 13`, logical, truncating (R67, R62). -/
def resampleDown (x : U32) : U32 := x >>> Config.shift

/-- `eba_up_out <- x + 0x38000000` (R70). -/
def biasUp (x : U32) : U32 := x + Config.biasUpConst

/-- `eba_dn_out <- x - 0x0001C000`, a borrow wraps (R71; D4). -/
def biasDown (x : U32) : U32 := x - Config.biasDownConst

/-- `d_wide` (R20; step 2 of R74). -/
def dWide (h : Float16Bits) : U32 := resampleUp (dNonsign h)

/-- `d_rebias` (R20; step 4 of R74). -/
def dRebias (h : Float16Bits) : U32 := biasUp (dWide h)

/-- `d_mag` (R20; step 5 of R74): denormals-as-zero. -/
def dMag (h : Float16Bits) : U32 := mux (dIsDaz h) 0#32 (dRebias h)

/-- `f_out` of `fp16_to_fp32_converter` (R20, R74). -/
def fp16ToFp32 (h : Float16Bits) : Float32Bits := dMag h ||| dSign32 h

/-- `e_narrow` (R21; step 3 of R79). -/
def eNarrow (i : Float32Bits) : U32 := resampleDown (eNonsign i)

/-- `e_rebias` (R21; step 5 of R79). -/
def eRebias (i : Float32Bits) : U32 := biasDown (eNarrow i)

/-- `e_r1` (R21; step 6 of R79): flush-to-zero. -/
def eR1 (i : Float32Bits) : U32 := mux (eIsFtz i) 0#32 (eRebias i)

/-- `e_r2` (R21; step 7 of R79): clamp-to-max, over the flush (R81). -/
def eR2 (threshold : U32) (i : Float32Bits) : U32 := mux (eIsClamp threshold i) Config.clampValue (eR1 i)

/-- `e_r3` (R21; step 8 of R79): denormals-as-zero, over the clamp (R81). -/
def eR3 (threshold : U32) (i : Float32Bits) : U32 := mux (eIsDaz i) 0#32 (eR2 threshold i)

/-- `h_out` of `fp32_to_fp16_converter` for an instance whose parameter is `threshold` (R21, R79; steps 9 and 10). -/
def fp32ToFp16 (threshold : U32) (i : Float32Bits) : Float16Bits := low16 (eR3 threshold i ||| eSign16 i)

end Sys2Proof.Machine
end

