-- ==== Sys2Proof/Machine/Ops.lean ====
section
/-! DEFINITION. What the meanings share: the caller drives an input port (10_state.md rule R22), an output port is the function
of the pattern present on its own input (R11), and the caller takes the result (70_reset_and_hazards.md rule R122). No trap
entry or return stands here: the block raises nothing and has none (60_exceptions.md rules R101, R105 and R106). -/

namespace Sys2Proof.Machine

/-- The caller presents a pattern on `h_in` (R117). -/
def State.driveHIn (s : State) (h : Float16Bits) : State := { s with ports := { s.ports with hIn := h } }

/-- The caller presents a pattern on `f_in` (R117). -/
def State.driveFIn (s : State) (i : Float32Bits) : State := { s with ports := { s.ports with fIn := i } }

/-- The caller presents a pattern on `mr_up_in` (R22). -/
def State.driveMrUpIn (s : State) (x : U32) : State := { s with ports := { s.ports with mrUpIn := x } }

/-- The caller presents a pattern on `mr_dn_in` (R22). -/
def State.driveMrDnIn (s : State) (x : U32) : State := { s with ports := { s.ports with mrDnIn := x } }

/-- The caller presents a pattern on `eba_up_in` (R22). -/
def State.driveEbaUpIn (s : State) (x : U32) : State := { s with ports := { s.ports with ebaUpIn := x } }

/-- The caller presents a pattern on `eba_dn_in` (R22). -/
def State.driveEbaDnIn (s : State) (x : U32) : State := { s with ports := { s.ports with ebaDnIn := x } }

/-- `f_out` (R22): `DECODE` of the pattern on `h_in`. -/
def State.fOut (s : State) : Float32Bits := fp16ToFp32 s.ports.hIn

/-- `h_out` (R22): `ENCODE` of the pattern on `f_in`, under the instance's parameter. -/
def State.hOut (s : State) : Float16Bits := fp32ToFp16 s.clampThreshold s.ports.fIn

/-- `mr_up_out` (R22). -/
def State.mrUpOut (s : State) : U32 := resampleUp s.ports.mrUpIn

/-- `mr_dn_out` (R22). -/
def State.mrDnOut (s : State) : U32 := resampleDown s.ports.mrDnIn

/-- `eba_up_out` (R22). -/
def State.ebaUpOut (s : State) : U32 := biasUp s.ports.ebaUpIn

/-- `eba_dn_out` (R22). -/
def State.ebaDnOut (s : State) : U32 := biasDown s.ports.ebaDnIn

/-- The byte lanes of `h_out`: `bytes = [h_out[7:0], h_out[15:8]]` (R22, R88). -/
def State.hOutBytes (s : State) : Wire16 := bytesOf s.hOut

/-- The same state with another list of what the caller will still present. -/
def State.withPending (s : State) (rest : List Stimulus) : State := { s with pending := rest }

/-- The caller takes a result. -/
def State.take (s : State) (op : Instr) (result : Result) : State :=
  { s with transcript := s.transcript ++ [⟨op, result⟩] }

/-- One operation as one atomic evaluation (R120): with the operand driven (state `driven`), the caller reads the output
and takes it. It always answers a next state (R101, R102). -/
def perform (op : Instr) (driven : State) (read : State → Result) : Host.Outcome State Fault Refusal :=
  .next (driven.take op (read driven))

end Sys2Proof.Machine
end

