-- ==== Sys2Proof/Machine/ByteInterface.lean ====
section
/-! DEFINITION. The byte-level operations (44_byte_interface.md): the converters' own ports behind and before the byte lanes. -/

namespace Sys2Proof.Machine

/-- `DECODE_BYTES` (R87): the port connection `h_in = (bytes[1], bytes[0])`, then `DECODE`. -/
def execDecodeBytes (bytes : Wire16) (s : State) : Host.Outcome State Fault Refusal :=
  perform (.decodeBytes bytes) (s.driveHIn (wordOf bytes)) (fun t => .single t.fOut)

/-- `ENCODE_BYTES` (R88): `ENCODE`, its result taken from the byte lanes, low byte first. -/
def execEncodeBytes (value : Float32Bits) (s : State) : Host.Outcome State Fault Refusal :=
  perform (.encodeBytes value) (s.driveFIn value) (fun t => .wire t.hOutBytes)

end Sys2Proof.Machine
end

