-- ==== Sys2Proof/Machine/Converters.lean ====
section
/-! DEFINITION. The word-level operations of the two converters (42_fp16_to_fp32_converter.md, 43_fp32_to_fp16_converter.md). -/

namespace Sys2Proof.Machine

/-- `DECODE` (R74): drive `h_in`, take `f_out`. -/
def execDecode (h : Float16Bits) (s : State) : Host.Outcome State Fault Refusal :=
  perform (.decode h) (s.driveHIn h) (fun t => .single t.fOut)

/-- `ENCODE` (R79): drive `f_in`, take `h_out`. -/
def execEncode (i : Float32Bits) (s : State) : Host.Outcome State Fault Refusal :=
  perform (.encode i) (s.driveFIn i) (fun t => .half t.hOut)

end Sys2Proof.Machine
end

