-- ==== Sys2Proof/Machine/ExponentBiasAdjuster.lean ====
section
/-! DEFINITION. The operations of the unit `exponent_bias_adjuster` (41_exponent_bias_adjuster.md), its paths driven on
their own. -/

namespace Sys2Proof.Machine

/-- `BIAS_UP` (R70): drive `eba_up_in`, take `eba_up_out`. -/
def execBiasUp (x : U32) (s : State) : Host.Outcome State Fault Refusal :=
  perform (.biasUp x) (s.driveEbaUpIn x) (fun t => .word t.ebaUpOut)

/-- `BIAS_DOWN` (R71): drive `eba_dn_in`, take `eba_dn_out`. -/
def execBiasDown (x : U32) (s : State) : Host.Outcome State Fault Refusal :=
  perform (.biasDown x) (s.driveEbaDnIn x) (fun t => .word t.ebaDnOut)

end Sys2Proof.Machine
end

