-- ==== Sys2Proof/Machine/MantissaResampler.lean ====
section
/-! DEFINITION. The operations of the unit `mantissa_resampler` (40_mantissa_resampler.md), its paths driven on their own. -/

namespace Sys2Proof.Machine

/-- `RESAMPLE_UP` (R66): drive `mr_up_in`, take `mr_up_out`. -/
def execResampleUp (x : U32) (s : State) : Host.Outcome State Fault Refusal :=
  perform (.resampleUp x) (s.driveMrUpIn x) (fun t => .word t.mrUpOut)

/-- `RESAMPLE_DOWN` (R67): drive `mr_dn_in`, take `mr_dn_out`. -/
def execResampleDown (x : U32) (s : State) : Host.Outcome State Fault Refusal :=
  perform (.resampleDown x) (s.driveMrDnIn x) (fun t => .word t.mrDnOut)

end Sys2Proof.Machine
end

