-- ==== Sys2Proof/Machine/Dispatch.lean ====
section
/-! DEFINITION. exec: one arm per operation of 30_encoding.md rule R53. -/

namespace Sys2Proof.Machine

-- Every operation answers a next state for every operand (60_exceptions.md rule R101).
def exec (i : Instr) (s : State) : Host.Outcome State Fault Refusal :=
  match i with
  | .resampleUp x => Sys2Proof.Machine.execResampleUp x s
  | .resampleDown x => Sys2Proof.Machine.execResampleDown x s
  | .biasUp x => Sys2Proof.Machine.execBiasUp x s
  | .biasDown x => Sys2Proof.Machine.execBiasDown x s
  | .decode h => Sys2Proof.Machine.execDecode h s
  | .encode f => Sys2Proof.Machine.execEncode f s
  | .decodeBytes bytes => Sys2Proof.Machine.execDecodeBytes bytes s
  | .encodeBytes value => Sys2Proof.Machine.execEncodeBytes value s

end Sys2Proof.Machine
end

