-- ==== Sys2Proof/Machine/Step.lean ====
section
/-! DEFINITION. One step of a run: the caller performs the oldest operation it still means to present (70_reset_and_hazards.md
rule R122). The block fetches nothing (20_memory.md rule R40); the list is the caller's. -/

namespace Sys2Proof.Machine

/-- One step. A caller that presents nothing leaves everything as it is (R11; notes/assumptions/7.md, DESIGN CHOICE). -/
def step (s : State) : Host.Outcome State Fault Refusal :=
  match s.pending with
  | [] => .next s
  | st :: rest =>
    match decodeStimulus st with
    | .ok i => exec i (s.withPending rest)
    | .error reason => .refused (.notAnOperand reason)

/-- The caller means to present the bare word next (notes/assumptions/5.md and 6.md). -/
def State.withFetchWord (s : State) (nbits w : Nat) : State :=
  s.withPending (bareWord nbits w :: s.pending)

end Sys2Proof.Machine
end

