-- ==== Sys2Proof/ClosedForm.lean ====
section
/-! DEFINITION. The spec's closed forms, in terms of the fields of the two formats and written without the masks, shifts and
wires of the machine: 42_fp16_to_fp32_converter.md rule R75, 43_fp32_to_fp16_converter.md rules R82 to R84. The machine does
not use this file; the statements hold the machine against it. Each closed form is the spec's own derivation. -/

namespace Sys2Proof.ClosedForm

/-- `s`, bit 15 of a Float16Bits (R46). -/
def halfSign (h : Float16Bits) : BitVec 1 := h.extractLsb' 15 1
/-- `e5`, bits 14 to 10 (R46). -/
def halfExp (h : Float16Bits) : BitVec 5 := h.extractLsb' 10 5
/-- `m10`, bits 9 to 0 (R46). -/
def halfMant (h : Float16Bits) : BitVec 10 := h.extractLsb' 0 10
/-- `S`, bit 31 of a Float32Bits (R45). -/
def singleSign (i : Float32Bits) : BitVec 1 := i.extractLsb' 31 1
/-- `E8`, bits 30 to 23 (R45). -/
def singleExp (i : Float32Bits) : BitVec 8 := i.extractLsb' 23 8
/-- `M23`, bits 22 to 0 (R45). -/
def singleMant (i : Float32Bits) : BitVec 23 := i.extractLsb' 0 23
/-- `M23[22:13]`, the ten mantissa bits that narrowing keeps. -/
def keptMant (i : Float32Bits) : BitVec 10 := (singleMant i).extractLsb' 13 10

/-- R75: `e5 = 0` gives the signed zero, any other `e5` the fields `s`, `e5 + 112`, `m10` and thirteen zeros. -/
def decode (h : Float16Bits) : Float32Bits :=
  if halfExp h = 0#5 then halfSign h ++ 0#31
  else halfSign h ++ ((halfExp h).setWidth 8 + 112#8) ++ halfMant h ++ 0#13

/-- `d = E8 - 112` (R84). -/
def rebiased (i : Float32Bits) : BitVec 8 := singleExp i - 112#8

/-- R82 with R84, the as-written configuration: the signed zero below `E8 = 113`, else `S | d[5]`, `d[4:0]`, `M23[22:13]`. -/
def encodeAsWritten (i : Float32Bits) : Float16Bits :=
  if (singleExp i).toNat < 113 then singleSign i ++ 0#15
  else (singleSign i ||| (rebiased i).extractLsb' 5 1) ++ (rebiased i).extractLsb' 0 5 ++ keptMant i

/-- R83, the effective-clamp configuration. -/
def encodeEffectiveClamp (i : Float32Bits) : Float16Bits :=
  if (singleExp i).toNat < 113 then singleSign i ++ 0#15
  else if 143 ≤ (singleExp i).toNat then singleSign i ++ 0x7BFF#15
  else singleSign i ++ (rebiased i).extractLsb' 0 5 ++ keptMant i

/-- That a result is the one the spec gives an operation in the as-written configuration, in number or field form (R66, R67,
R70, R71, R75, R82, R87, R88). Of `BIAS_DOWN` with a borrow it says only that a u32 results (92_eei_decisions.md D4). -/
def Agrees : Instr → Result → Prop
  | .resampleUp x, r => ∃ w : U32, r = .word w ∧ w.toNat = x.toNat * 8192 % 2 ^ 32
  | .resampleDown x, r => ∃ w : U32, r = .word w ∧ w.toNat = x.toNat / 8192
  | .biasUp x, r => ∃ w : U32, r = .word w ∧ w.toNat = (x.toNat + 0x38000000) % 2 ^ 32
  | .biasDown x, r => ∃ w : U32, r = .word w ∧ (0x1C000 ≤ x.toNat → w.toNat = x.toNat - 0x1C000)
  | .decode h, r => r = .single (decode h)
  | .encode i, r => r = .half (encodeAsWritten i)
  | .decodeBytes bytes, r => r = .single (decode (bytes.byte1 ++ bytes.byte0))
  | .encodeBytes value, r =>
    r = .wire ⟨(encodeAsWritten value).extractLsb' 0 8, (encodeAsWritten value).extractLsb' 8 8⟩

end Sys2Proof.ClosedForm
end

