-- ==== Sys2Proof/Safety.lean ====
section
/-! DEFINITION. The terms in which claims about the machine are stated: the two configurations of 43_fp32_to_fp16_converter.md
rule R80, an operation giving a result (30_encoding.md rule R58), a run, and the invariant of a run. -/

namespace Sys2Proof.Machine

/-- The as-written configuration, this hardware's (R80). -/
abbrev State.AsWritten (s : State) : Prop := s.clampThreshold = 0x8E000000#32

/-- The effective-clamp configuration (R80, R83), which is not this hardware's. -/
abbrev State.EffectiveClamp (s : State) : Prop :=
  0x47000000 ≤ s.clampThreshold.toNat ∧ s.clampThreshold.toNat ≤ 0x477FFFFF

/-- `MNEMONIC(operand) = result` (R58): performed in `s`, the operation answers a next state and the caller has taken
exactly this result. -/
def Gives (s : State) (op : Instr) (r : Result) : Prop :=
  ∃ t, exec op s = .next t ∧ t.transcript = s.transcript ++ [⟨op, r⟩]

/-- A caller that presents only operands of the block (R32): its runs are safe, no step of one stops. -/
abbrev State.PresentsOperands (s : State) : Prop := ∀ st ∈ s.pending, st.wellFormed = true

/-- `k` steps all answer a next state, the last of them `t`. -/
def RunsTo (k : Nat) (s t : State) : Prop := Host.Core.run Sys2Proof.core k s = .next t

/-- The invariant of a run in the as-written configuration: the parameter is this hardware's literal (R118) and every result
the caller has taken is the one the spec gives its operation (R11, R122). -/
def TranscriptSound (s : State) : Prop :=
  s.AsWritten ∧ ∀ done ∈ s.transcript, ClosedForm.Agrees done.op done.result

end Sys2Proof.Machine
end

