-- ==== Sys2Proof/Certificates/Slice0/Obligations.lean ====
section
/-! DEFINITION. The statements for the provers. Each docstring names the rule or section of spec/ it formalises. Statements about
ENCODE hold for every value of the parameter CLAMP_THRESHOLD unless they name a configuration (92_eei_decisions.md D5). -/

open Sys2Proof Sys2Proof.Machine Sys2Proof.ClosedForm

/-! ## mantissa_resampler (40_mantissa_resampler.md) -/

/-- R66, with its frame: only the port `mr_up_in` and the transcript change. -/
def Obligations.ResampleUpMultipliesBy8192 : Prop :=
  ∀ (s : State) (x : U32), ∃ r : U32,
    exec (.resampleUp x) s = .next { s with
      ports := { s.ports with mrUpIn := x }
      transcript := s.transcript ++ [⟨.resampleUp x, .word r⟩] } ∧
    r.toNat = x.toNat * 8192 % 2 ^ 32 ∧
    (x.toNat ≤ 0x7FFF → r.toNat = x.toNat * 8192 ∧ r.toNat ≤ 0x0FFFE000 ∧
      r.extractLsb' 0 13 = 0#13 ∧ r.extractLsb' 28 4 = 0#4 ∧ r.extractLsb' 13 10 = x.extractLsb' 0 10) ∧
    (x = 0x00004900#32 → r = 0x09200000#32)

/-- R67, with its frame: only the port `mr_dn_in` and the transcript change. -/
def Obligations.ResampleDownDividesBy8192 : Prop :=
  ∀ (s : State) (x : U32), ∃ r : U32,
    exec (.resampleDown x) s = .next { s with
      ports := { s.ports with mrDnIn := x }
      transcript := s.transcript ++ [⟨.resampleDown x, .word r⟩] } ∧
    r.toNat = x.toNat / 8192 ∧
    (x.toNat ≤ 0x1FFF → r = 0#32) ∧
    (x.toNat ≤ 0x7FFFFFFF → r.toNat ≤ 0x0003FFFF ∧
      r.extractLsb' 0 10 = keptMant x ∧ r.extractLsb' 10 8 = singleExp x) ∧
    (x = 0x3F801FFF#32 ∨ x = 0x3F800000#32 → r = 0x0001FC00#32) ∧
    (x = 0x3FFFFFFF#32 → r = 0x0001FFFF#32) ∧
    (x = 0x41200000#32 → r = 0x00020900#32)

/-- The derived relations of R68: narrowing after widening, and widening after narrowing. -/
def Obligations.ResamplerNarrowsByTruncation : Prop :=
  ∀ (s : State) (x : U32),
    (x.toNat < 2 ^ 31 → ∃ y : U32, Gives s (.resampleDown x) (.word y) ∧
      Gives s (.resampleUp y) (.word (x &&& 0xFFFFE000#32))) ∧
    (x.toNat < 2 ^ 19 → ∃ y : U32, Gives s (.resampleUp x) (.word y) ∧ Gives s (.resampleDown y) (.word x))

/-! ## exponent_bias_adjuster (41_exponent_bias_adjuster.md) -/

/-- R70, whose corner cases (1) and (3) are the spec's own derivations; with its frame. -/
def Obligations.BiasUpAddsBiasDifference : Prop :=
  ∀ (s : State) (x : U32), ∃ r : U32,
    exec (.biasUp x) s = .next { s with
      ports := { s.ports with ebaUpIn := x }
      transcript := s.transcript ++ [⟨.biasUp x, .word r⟩] } ∧
    r.toNat = (x.toNat + 0x38000000) % 2 ^ 32 ∧
    (x.toNat ≤ 0x0FFFE000 → r.toNat ≤ 0x47FFE000 ∧
      r.extractLsb' 0 23 = x.extractLsb' 0 23 ∧ (singleExp r).toNat = (singleExp x).toNat + 112) ∧
    (x = 0x09200000#32 → r = 0x41200000#32)

/-- R71 where the subtraction does not borrow (corner cases 1 and 3); with its frame. -/
def Obligations.BiasDownWithoutBorrow : Prop :=
  ∀ (s : State) (x : U32), 0x0001C000 ≤ x.toNat → ∃ r : U32,
    exec (.biasDown x) s = .next { s with
      ports := { s.ports with ebaDnIn := x }
      transcript := s.transcript ++ [⟨.biasDown x, .word r⟩] } ∧
    r.toNat = x.toNat - 0x0001C000 ∧
    r.extractLsb' 0 10 = x.extractLsb' 0 10 ∧
    (x.toNat ≤ 0x0003FFFF → r.toNat ≤ 0x00023FFF ∧ (r.extractLsb' 10 8).toNat = (x.extractLsb' 10 8).toNat - 112 ∧
      (r.toNat < 2 ^ 15 ↔ (x.extractLsb' 10 8).toNat < 144)) ∧
    (x = 0x00020900#32 → r = 0x00004900#32)

/-- R71 where the subtraction borrows: the operation completes with the same frame. The value is the spec's own choice
(92_eei_decisions.md D4), which asks a model not to state a claim about it, so none is made. -/
def Obligations.BiasDownWithBorrowCompletes : Prop :=
  ∀ (s : State) (x : U32), x.toNat < 0x0001C000 → ∃ r : U32,
    exec (.biasDown x) s = .next { s with
      ports := { s.ports with ebaDnIn := x }
      transcript := s.transcript ++ [⟨.biasDown x, .word r⟩] }

/-- R72: the four sub-unit paths in sequence give back every operand of the decoder's range. -/
def Obligations.SubUnitPathsInverseOnDecoderRange : Prop :=
  ∀ (s : State) (x : U32), x.toNat ≤ 0x7FFF → ∃ a b c : U32,
    Gives s (.resampleUp x) (.word a) ∧ Gives s (.biasUp a) (.word b) ∧
    Gives s (.resampleDown b) (.word c) ∧ Gives s (.biasDown c) (.word x)

/-! ## fp16_to_fp32_converter (42_fp16_to_fp32_converter.md) -/

/-- R74, its step list as arithmetic on numbers, with its corner cases and its frame. -/
def Obligations.DecodeFollowsStepList : Prop :=
  ∀ (s : State) (h : Float16Bits), ∃ f : Float32Bits,
    exec (.decode h) s = .next { s with
      ports := { s.ports with hIn := h }
      transcript := s.transcript ++ [⟨.decode h, .single f⟩] } ∧
    f.toNat = (if h.toNat / 2 ^ 10 % 2 ^ 5 = 0 then 0 else h.toNat % 2 ^ 15 * 2 ^ 13 + 0x38000000) +
      h.toNat / 2 ^ 15 * 2 ^ 31 ∧
    f.toNat % 2 ^ 13 = 0 ∧
    (h = 0x0000#16 → f = 0x00000000#32) ∧ (h = 0x8000#16 → f = 0x80000000#32) ∧
    (h = 0x0400#16 → f = 0x38800000#32) ∧ (h = 0x7BFF#16 → f = 0x477FE000#32) ∧
    (h = 0x4900#16 → f = 0x41200000#32)

/-- R75, the closed form in the fields. -/
def Obligations.DecodeClosedForm : Prop :=
  ∀ (s : State) (h : Float16Bits), Gives s (.decode h) (.single (ClosedForm.decode h))

/-- R76: the infinity and NaN patterns go through the same arithmetic and never give an infinity or a NaN. -/
def Obligations.DecodeOfInfinityAndNanPatterns : Prop :=
  ∀ (s : State) (h : Float16Bits), halfExp h = 31#5 → ∃ f : Float32Bits,
    Gives s (.decode h) (.single f) ∧
    f = ((halfSign h).setWidth 32 <<< 31) ||| 0x47800000#32 ||| ((halfMant h).setWidth 32 <<< 13) ∧
    singleExp f = 143#8 ∧ (h = 0xFC00#16 → f = 0xC7800000#32) ∧ (h = 0x7E00#16 → f = 0x47C00000#32)

/-- R77: `DECODE` identifies two different operands exactly when both are zeroed with the same sign. -/
def Obligations.DecodeIdentifiesOnlyZeroedPatterns : Prop :=
  ∀ (s : State) (h k : Float16Bits), ∃ f g : Float32Bits,
    Gives s (.decode h) (.single f) ∧ Gives s (.decode k) (.single g) ∧
    (f = g ↔ h = k ∨ (halfExp h = 0#5 ∧ halfExp k = 0#5 ∧ halfSign h = halfSign k))

/-- R99 and the image of R77: exactly which words `DECODE` gives. -/
def Obligations.DecodeRangeIsExact : Prop :=
  ∀ (s : State) (f : Float32Bits),
    (∃ h : Float16Bits, Gives s (.decode h) (.single f)) ↔
      f.extractLsb' 0 13 = 0#13 ∧
      ((singleExp f = 0#8 ∧ singleMant f = 0#23) ∨
        (113 ≤ (singleExp f).toNat ∧ (singleExp f).toNat ≤ 143))

/-- P2 of 95_test_vectors.md, for every operand: `DECODE` is the two sub-units on the non-sign field, the zeroing
multiplexer, and the sign. -/
def Obligations.DecodeIsComposedOfSubUnits : Prop :=
  ∀ (s : State) (h : Float16Bits), ∃ a b : U32,
    Gives s (.resampleUp ((h &&& 0x7FFF#16).setWidth 32)) (.word a) ∧ Gives s (.biasUp a) (.word b) ∧
    Gives s (.decode h) (.single ((if h &&& 0x7C00#16 = 0#16 then 0#32 else b) ||| (halfSign h ++ 0#31)))

/-! ## fp32_to_fp16_converter (43_fp32_to_fp16_converter.md) -/

/-- R79, its step list as arithmetic on numbers, for every value of the parameter; with its frame. -/
def Obligations.EncodeFollowsStepList : Prop :=
  ∀ (s : State) (i : Float32Bits), ∃ h : Float16Bits,
    exec (.encode i) s = .next { s with
      ports := { s.ports with fIn := i }
      transcript := s.transcript ++ [⟨.encode i, .half h⟩] } ∧
    h.toNat = ((if i.toNat / 2 ^ 23 % 2 ^ 8 = 0 then 0
        else if s.clampThreshold.toNat < i.toNat / 2 ^ 23 % 2 ^ 8 * 2 ^ 23 then 0x7BFF
        else if i.toNat / 2 ^ 23 % 2 ^ 8 * 2 ^ 23 < 0x38800000 then 0
        else i.toNat % 2 ^ 31 / 2 ^ 13 - 0x1C000) ||| i.toNat / 2 ^ 31 * 2 ^ 15) % 2 ^ 16 ∧
    (s.AsWritten → i = 0x807FFFFF#32 → h = 0x8000#16) ∧ (s.AsWritten → i = 0x387FFFFF#32 → h = 0x0000#16) ∧
    (s.AsWritten → i = 0x38800000#32 → h = 0x0400#16) ∧ (s.AsWritten → i = 0x3FFFFFFF#32 → h = 0x3FFF#16) ∧
    (s.AsWritten → i = 0x477FFFFF#32 → h = 0x7BFF#16) ∧ (s.AsWritten → i = 0x41200000#32 → h = 0x4900#16)

/-- R82 with R84, for every value of the parameter that R80 says gives the as-written function. -/
def Obligations.EncodeClosedFormAsWritten : Prop :=
  ∀ (s : State) (i : Float32Bits), 0x7F800000 ≤ s.clampThreshold.toNat →
    Gives s (.encode i) (.half (encodeAsWritten i))

/-- R83, for every value of the parameter that R80 says gives the effective-clamp function. -/
def Obligations.EncodeClosedFormEffectiveClamp : Prop :=
  ∀ (s : State) (i : Float32Bits), s.EffectiveClamp → Gives s (.encode i) (.half (encodeEffectiveClamp i))

/-- R80: the result depends on the parameter only through the set of exponent fields above it. -/
def Obligations.ParameterActsThroughClampedExponents : Prop :=
  ∀ (s t : State) (i : Float32Bits) (h : Float16Bits),
    (∀ e : BitVec 8, s.clampThreshold.toNat < e.toNat * 2 ^ 23 ↔ t.clampThreshold.toNat < e.toNat * 2 ^ 23) →
    Gives s (.encode i) (.half h) → Gives t (.encode i) (.half h)

/-- R81: denormals-as-zero over clamp over flush, the sign untouched, for every value of the parameter; and flush and clamp can
meet on one operand exactly when the parameter is below `0x38000000`. -/
def Obligations.EncodeOverridePriority : Prop :=
  ∀ s : State,
    (∀ i : Float32Bits, singleExp i = 0#8 → Gives s (.encode i) (.half (singleSign i ++ 0#15))) ∧
    (∀ i : Float32Bits, s.clampThreshold.toNat < (singleExp i).toNat * 2 ^ 23 →
      Gives s (.encode i) (.half (singleSign i ++ 0x7BFF#15))) ∧
    (∀ i : Float32Bits, (singleExp i).toNat * 2 ^ 23 ≤ s.clampThreshold.toNat → (singleExp i).toNat < 113 →
      Gives s (.encode i) (.half (singleSign i ++ 0#15))) ∧
    ((∃ i : Float32Bits, s.clampThreshold.toNat < (singleExp i).toNat * 2 ^ 23 ∧ (singleExp i).toNat < 113) ↔
      s.clampThreshold.toNat < 0x38000000)

/-- R84, its table for operands of 65536.0 and above. -/
def Obligations.OverflowSpillsIntoSignAndExponent : Prop :=
  ∀ (s : State) (i : Float32Bits), s.AsWritten → 143 ≤ (singleExp i).toNat → ∃ h : Float16Bits,
    Gives s (.encode i) (.half h) ∧ halfMant h = keptMant i ∧
    ((singleExp i).toNat = 143 → (halfExp h).toNat = 31 ∧ halfSign h = singleSign i) ∧
    (144 ≤ (singleExp i).toNat → (singleExp i).toNat ≤ 175 →
      (halfExp h).toNat = (singleExp i).toNat - 144 ∧ halfSign h = 1#1) ∧
    (176 ≤ (singleExp i).toNat → (singleExp i).toNat ≤ 207 →
      (halfExp h).toNat = (singleExp i).toNat - 176 ∧ halfSign h = singleSign i) ∧
    (208 ≤ (singleExp i).toNat → (singleExp i).toNat ≤ 239 →
      (halfExp h).toNat = (singleExp i).toNat - 208 ∧ halfSign h = 1#1) ∧
    (240 ≤ (singleExp i).toNat → (halfExp h).toNat = (singleExp i).toNat - 240 ∧ halfSign h = singleSign i)

/-- R85: infinity and NaN operands in both configurations, never `0x7C00` or `0x7E00`. -/
def Obligations.EncodeOfInfinityAndNanOperands : Prop :=
  ∀ (s : State) (i : Float32Bits), singleExp i = 255#8 → (s.AsWritten ∨ s.EffectiveClamp) → ∃ h : Float16Bits,
    Gives s (.encode i) (.half h) ∧ h ≠ 0x7C00#16 ∧ h ≠ 0x7E00#16 ∧
    (s.AsWritten → h = (singleSign i ++ 0#15) ||| 0x3C00#16 ||| (keptMant i).setWidth 16) ∧
    (s.EffectiveClamp → h = (singleSign i ++ 0#15) ||| 0x7BFF#16)

/-- R86: in the as-written configuration every Float16Bits is the result of some operand. -/
def Obligations.EncodeReachesEveryHalfPattern : Prop :=
  ∀ (s : State) (h : Float16Bits), s.AsWritten → ∃ i : Float32Bits, Gives s (.encode i) (.half h)

/-- R86: in the effective-clamp configuration the results are the two zeros and the normal patterns. -/
def Obligations.EncodeImageEffectiveClamp : Prop :=
  ∀ (s : State) (h : Float16Bits), s.EffectiveClamp →
    ((∃ i : Float32Bits, Gives s (.encode i) (.half h)) ↔
      halfExp h ≠ 31#5 ∧ (halfExp h = 0#5 → halfMant h = 0#10))

/-- R86: of the operands with `113 <= E8 <= 143`, two share a result exactly when they differ in the low 13 bits only. -/
def Obligations.EncodeSharesResultsByDiscardedBits : Prop :=
  ∀ (s : State) (i j : Float32Bits), s.AsWritten →
    113 ≤ (singleExp i).toNat → (singleExp i).toNat ≤ 143 → 113 ≤ (singleExp j).toNat → (singleExp j).toNat ≤ 143 →
    ∃ h k : Float16Bits, Gives s (.encode i) (.half h) ∧ Gives s (.encode j) (.half k) ∧
      (h = k ↔ i.toNat / 2 ^ 13 = j.toNat / 2 ^ 13)

/-! ## byte interface (44_byte_interface.md) -/

/-- R87, with its corner cases and its frame: only the port `h_in` and the transcript change. -/
def Obligations.DecodeBytesIsDecodeOfLittleEndianWord : Prop :=
  ∀ (s : State) (bytes : Wire16), ∃ (h : Float16Bits) (f : Float32Bits),
    h.toNat = bytes.byte0.toNat + 2 ^ 8 * bytes.byte1.toNat ∧
    Gives s (.decode h) (.single f) ∧
    exec (.decodeBytes bytes) s = .next { s with
      ports := { s.ports with hIn := h }
      transcript := s.transcript ++ [⟨.decodeBytes bytes, .single f⟩] } ∧
    singleSign f = bytes.byte1.extractLsb' 7 1 ∧
    (f.extractLsb' 0 31 = 0#31 ↔ bytes.byte1.extractLsb' 2 5 = 0#5) ∧
    (bytes = ⟨0x00#8, 0x80#8⟩ → f = 0x80000000#32) ∧ (bytes = ⟨0x80#8, 0x00#8⟩ → f = 0x00000000#32) ∧
    (bytes = ⟨0x00#8, 0x49#8⟩ → f = 0x41200000#32)

/-- R88, with its corner case and its frame: only the port `f_in` and the transcript change. -/
def Obligations.EncodeBytesEmitsLowByteFirst : Prop :=
  ∀ (s : State) (value : Float32Bits), ∃ (h : Float16Bits) (bytes : Wire16),
    Gives s (.encode value) (.half h) ∧
    exec (.encodeBytes value) s = .next { s with
      ports := { s.ports with fIn := value }
      transcript := s.transcript ++ [⟨.encodeBytes value, .wire bytes⟩] } ∧
    bytes.byte0.toNat = h.toNat % 2 ^ 8 ∧ bytes.byte1.toNat = h.toNat / 2 ^ 8 ∧
    (value = 0x80000000#32 → bytes = ⟨0x00#8, 0x80#8⟩) ∧
    (s.AsWritten → value = 0xBFC00000#32 → bytes = ⟨0x00#8, 0xBE#8⟩)

/-- R89 with R92: through the byte lanes every normal, infinity or NaN pattern comes back byte for byte, in the as-written
configuration. -/
def Obligations.WireRoundTrip : Prop :=
  ∀ (s : State) (bytes : Wire16), s.AsWritten → ∃ f : Float32Bits, Gives s (.decodeBytes bytes) (.single f) ∧
    Gives s (.encodeBytes f) (.wire (if bytes.byte1.extractLsb' 2 5 = 0#5
      then ⟨0x00#8, bytes.byte1 &&& 0x80#8⟩ else bytes))

/-- R89: storing a value as bytes and reading it back is `DECODE` of `ENCODE`, for every value of the parameter. -/
def Obligations.BytesCarryTheEncodedWord : Prop :=
  ∀ (s : State) (value : Float32Bits), ∃ (bytes : Wire16) (h : Float16Bits) (f : Float32Bits),
    Gives s (.encodeBytes value) (.wire bytes) ∧ Gives s (.decodeBytes bytes) (.single f) ∧
    Gives s (.encode value) (.half h) ∧ Gives s (.decode h) (.single f)

/-! ## the source's properties with their exact domains (45_properties.md) -/

/-- R92: `ENCODE` of `DECODE`, for every Float16Bits and both configurations. -/
def Obligations.HalfRoundTrip : Prop :=
  ∀ (s : State) (h : Float16Bits), ∃ (f : Float32Bits) (k : Float16Bits),
    Gives s (.decode h) (.single f) ∧ Gives s (.encode f) (.half k) ∧
    (s.AsWritten → k = if halfExp h = 0#5 then h &&& 0x8000#16 else h) ∧
    (s.EffectiveClamp → k = if halfExp h = 0#5 then h &&& 0x8000#16
      else if halfExp h = 31#5 then (h &&& 0x8000#16) ||| 0x7BFF#16 else h)

/-- R93. -/
def Obligations.ZeroPreservation : Prop :=
  ∀ s : State, Gives s (.decode 0x0000#16) (.single 0x00000000#32) ∧
    Gives s (.decode 0x8000#16) (.single 0x80000000#32) ∧
    Gives s (.encode 0x00000000#32) (.half 0x0000#16) ∧ Gives s (.encode 0x80000000#32) (.half 0x8000#16)

/-- R94. -/
def Obligations.DenormalsAsZeroOnDecode : Prop :=
  ∀ (s : State) (h : Float16Bits), h &&& 0x7C00#16 = 0#16 →
    Gives s (.decode h) (.single ((h &&& 0x8000#16).setWidth 32 <<< 16))

/-- R95, with its sharp boundary and its remark on 0.001 (90_conflicts.md C3). -/
def Obligations.FlushToZeroOnEncode : Prop :=
  ∀ s : State, (s.AsWritten ∨ s.EffectiveClamp) →
    (∀ i : Float32Bits, (i &&& 0x7F800000#32).toNat < 0x38800000 →
      Gives s (.encode i) (.half (((i &&& 0x80000000#32) >>> 16).setWidth 16))) ∧
    Gives s (.encode 0x387FFFFF#32) (.half 0x0000#16) ∧ Gives s (.encode 0x38800000#32) (.half 0x0400#16) ∧
    Gives s (.encode 0x3A83126F#32) (.half 0x1418#16)

/-- R96: which operands give the maximum finite magnitude. As-written none does by the clamp; in the effective-clamp
configuration every operand with `E8 >= 143` does, with its own sign, and below that only those with `E8 = 142` whose kept
mantissa bits are all ones, by truncation. -/
def Obligations.MaximumMagnitudeResults : Prop :=
  ∀ (s : State) (i : Float32Bits), ∃ h : Float16Bits, Gives s (.encode i) (.half h) ∧
    (s.AsWritten → eIsClamp s.clampThreshold i = false ∧
      (h = 0x7BFF#16 ∨ h = 0xFBFF#16 ↔
        113 ≤ (singleExp i).toNat ∧ ((singleExp i).toNat - 112) % 32 = 30 ∧ keptMant i = 0x3FF#10)) ∧
    (s.AsWritten → i = 0x47C35000#32 → h = 0x7E1A#16) ∧ (s.AsWritten → i = 0xC7C35000#32 → h = 0xFE1A#16) ∧
    (s.EffectiveClamp →
      (h = 0x7BFF#16 ∨ h = 0xFBFF#16 ↔
        143 ≤ (singleExp i).toNat ∨ ((singleExp i).toNat = 142 ∧ keptMant i = 0x3FF#10)) ∧
      (143 ≤ (singleExp i).toNat → h = singleSign i ++ 0x7BFF#15))

/-- R97 (a). -/
def Obligations.DecodeSignIndependence : Prop :=
  ∀ (s : State) (h : Float16Bits), ∃ f : Float32Bits, Gives s (.decode h) (.single f) ∧
    Gives s (.decode (h ^^^ 0x8000#16)) (.single (f ^^^ 0x80000000#32))

/-- R97 (b), in both configurations, with the two ranges of `E8` where the results are equal. -/
def Obligations.EncodeSignIndependence : Prop :=
  ∀ (s : State) (i : Float32Bits), ∃ h k : Float16Bits,
    Gives s (.encode i) (.half h) ∧ Gives s (.encode (i ^^^ 0x80000000#32)) (.half k) ∧
    (s.AsWritten → k = if (144 ≤ (singleExp i).toNat ∧ (singleExp i).toNat ≤ 175) ∨
      (208 ≤ (singleExp i).toNat ∧ (singleExp i).toNat ≤ 239) then h else h ^^^ 0x8000#16) ∧
    (s.EffectiveClamp → k = h ^^^ 0x8000#16)

/-- R98: `DECODE` of `ENCODE` clears the low 13 mantissa bits, or gives the signed zero below `E8 = 113`. -/
def Obligations.TruncationLaw : Prop :=
  ∀ (s : State) (i : Float32Bits), ∃ (h : Float16Bits) (f : Float32Bits),
    Gives s (.encode i) (.half h) ∧ Gives s (.decode h) (.single f) ∧
    (s.AsWritten ∨ s.EffectiveClamp → 113 ≤ (singleExp i).toNat → (singleExp i).toNat ≤ 142 →
      f = i &&& 0xFFFFE000#32) ∧
    (s.AsWritten → (singleExp i).toNat = 143 → f = i &&& 0xFFFFE000#32) ∧
    (s.AsWritten ∨ s.EffectiveClamp → (singleExp i).toNat < 113 → f = i &&& 0x80000000#32)

/-- R100: re-encoding gives the same word, and where it does not in the as-written configuration. -/
def Obligations.ReEncoding : Prop :=
  ∀ (s : State) (i : Float32Bits), ∃ (h : Float16Bits) (f : Float32Bits) (k : Float16Bits),
    Gives s (.encode i) (.half h) ∧ Gives s (.decode h) (.single f) ∧ Gives s (.encode f) (.half k) ∧
    (s.AsWritten → (k = h ↔ (singleExp i).toNat ≤ 143 ∨ ¬(halfExp h = 0#5 ∧ halfMant h ≠ 0#10))) ∧
    (s.EffectiveClamp → k = h)

/-! ## the machine: totality, absence of state, order (10_state.md, 20_memory.md, 60_exceptions.md) -/

/-- R101: every operation on every operand answers a value; nothing faults and nothing is refused. -/
def Obligations.EveryOperationAnswersAValue : Prop :=
  ∀ (i : Instr) (s : State), (∃ r, Gives s i r) ∧
    (∀ reason, exec i s ≠ .fault reason) ∧ (∀ reason, exec i s ≠ .refused reason)

/-- R11: a result depends on the operand and the instance's parameter alone, and the parameter matters to the two encoding
operations only. -/
def Obligations.ResultDependsOnOperandAlone : Prop :=
  ∀ (i : Instr) (s t : State) (r : Result),
    (s.clampThreshold = t.clampThreshold ∨ ∀ v : Float32Bits, i ≠ .encode v ∧ i ≠ .encodeBytes v) →
    Gives s i r → Gives t i r

/-- R34: an operation changes the input port it presents its operand on, and the list of results; not the parameter, not
another port, not what is still to be presented. -/
def Obligations.OperationFrame : Prop :=
  ∀ (i : Instr) (s t : State), exec i s = .next t →
    t.clampThreshold = s.clampThreshold ∧ t.pending = s.pending ∧
    (∃ r, t.transcript = s.transcript ++ [⟨i, r⟩]) ∧
    match i with
    | .resampleUp x => t.ports = { s.ports with mrUpIn := x }
    | .resampleDown x => t.ports = { s.ports with mrDnIn := x }
    | .biasUp x => t.ports = { s.ports with ebaUpIn := x }
    | .biasDown x => t.ports = { s.ports with ebaDnIn := x }
    | .decode h => t.ports = { s.ports with hIn := h }
    | .encode v => t.ports = { s.ports with fIn := v }
    | .decodeBytes b => t.ports = { s.ports with hIn := b.byte1 ++ b.byte0 }
    | .encodeBytes v => t.ports = { s.ports with fIn := v }

/-- R117: after an operation the output port of its unit shows the result taken, and the converters' outputs that it did not
drive show what they showed before. -/
def Obligations.OutputPortShowsResult : Prop :=
  ∀ (i : Instr) (s t : State), exec i s = .next t → ∃ r, t.transcript = s.transcript ++ [⟨i, r⟩] ∧
    match i with
    | .resampleUp _ => r = .word t.mrUpOut ∧ t.fOut = s.fOut ∧ t.hOut = s.hOut
    | .resampleDown _ => r = .word t.mrDnOut ∧ t.fOut = s.fOut ∧ t.hOut = s.hOut
    | .biasUp _ => r = .word t.ebaUpOut ∧ t.fOut = s.fOut ∧ t.hOut = s.hOut
    | .biasDown _ => r = .word t.ebaDnOut ∧ t.fOut = s.fOut ∧ t.hOut = s.hOut
    | .decode _ => r = .single t.fOut ∧ t.hOut = s.hOut
    | .encode _ => r = .half t.hOut ∧ t.fOut = s.fOut
    | .decodeBytes _ => r = .single t.fOut ∧ t.hOut = s.hOut
    | .encodeBytes _ => r = .wire ⟨t.hOut.extractLsb' 0 8, t.hOut.extractLsb' 8 8⟩ ∧ t.fOut = s.fOut

/-- R37: two operations give the same two results in either order. -/
def Obligations.OperationOrderDoesNotMatter : Prop :=
  ∀ (i j : Instr) (s : State), ∃ (r q : Result) (t u t' u' : State),
    exec i s = .next t ∧ exec j t = .next t' ∧ exec j s = .next u ∧ exec i u = .next u' ∧
    t'.transcript = s.transcript ++ [⟨i, r⟩, ⟨j, q⟩] ∧ u'.transcript = s.transcript ++ [⟨j, q⟩, ⟨i, r⟩]

/-- R34: an operation repeated at once gives the same result and leaves the ports as they are. -/
def Obligations.RepeatedOperationIsIdempotent : Prop :=
  ∀ (i : Instr) (s t : State), exec i s = .next t → ∃ (r : Result) (u : State), exec i t = .next u ∧
    u.ports = t.ports ∧ u.transcript = s.transcript ++ [⟨i, r⟩, ⟨i, r⟩]

/-! ## presentation, steps and runs (30_encoding.md sections 3 to 5, 70_reset_and_hazards.md) -/

/-- Decoding and encoding agree in both directions (the model's own form of a presentation, notes/assumptions/4.md): a
presentation selects an operation exactly when it is the one that performs it. -/
def Obligations.PresentationsAndOperationsCorrespond : Prop :=
  ∀ (st : Stimulus) (i : Instr), decodeStimulus st = .ok i ↔ st = encodeInstr i

/-- R55 with R32: every operand pattern of the port's width is legal, and nothing else is an operand. -/
def Obligations.EveryFittingPatternIsLegal : Prop :=
  ∀ st : Stimulus, (∃ i, decodeStimulus st = .ok i) ↔
    st.bits < 2 ^ st.width ∧
    match st.path with
    | .halfWord | .halfByteLanes => st.width = 16
    | .resamplerUp | .resamplerDown | .adjusterUp | .adjusterDown | .singleWord | .singleToByteLanes => st.width = 32

/-- Words written out bit by bit from the layouts of R45 to R47 select the operation they stand for. -/
def Obligations.WrittenOutWordsDecode : Prop :=
  decodeStimulus ⟨.singleWord, 32, 0b01000001001000000000000000000000⟩ = .ok (.encode 0x41200000#32) ∧
  decodeStimulus ⟨.halfWord, 16, 0b1011111000000000⟩ = .ok (.decode 0xBE00#16) ∧
  decodeStimulus ⟨.halfByteLanes, 16, 0b0010101001100110⟩ = .ok (.decodeBytes ⟨0x66#8, 0x2A#8⟩) ∧
  decodeStimulus ⟨.resamplerUp, 32, 0b00000000000000000100100100000000⟩ = .ok (.resampleUp 0x4900#32)

/-- A step performs the oldest presented operation, after taking it off the caller's list. -/
def Obligations.StepPerformsPresentedOperation : Prop :=
  ∀ (s : State) (st : Stimulus) (rest : List Stimulus) (i : Instr),
    s.pending = st :: rest → decodeStimulus st = .ok i → step s = exec i { s with pending := rest }

/-- The model's choice (notes/assumptions/7.md): with nothing presented a step leaves everything as it is. -/
def Obligations.NothingPresentedChangesNothing : Prop :=
  ∀ s : State, s.pending = [] → step s = .next s

/-- The model's form (notes/assumptions/8.md) of 93_implementation_defined.md U7: what fits no port is refused by name. -/
def Obligations.IllFittingPresentationIsRefused : Prop :=
  ∀ (s : State) (st : Stimulus) (rest : List Stimulus), s.pending = st :: rest → st.wellFormed = false →
    ∃ reason, step s = .refused (.notAnOperand reason)

/-- R80, R118: the parameter is this hardware's literal before the first operation and no run changes it. -/
def Obligations.ParameterIsFixedForLife : Prop :=
  State.reset.clampThreshold = 0x8E000000#32 ∧
  ∀ (k : Nat) (s t : State), RunsTo k s t → t.clampThreshold = s.clampThreshold

/-- The invariant of a run: from any state whose results are all right, a step that answers gives such a state. -/
def Obligations.StepKeepsTranscriptSound : Prop :=
  ∀ s t : State, TranscriptSound s → step s = .next t → TranscriptSound t

/-- R23 and the model's choice for the ports (notes/assumptions/3.md): the invariant before the first operation. -/
def Obligations.ResetTranscriptSound : Prop :=
  TranscriptSound State.reset ∧ State.reset.pending = [] ∧ State.reset.transcript = []

/-- R122: a run over any list of operations terminates, one operation a step, and its end state is the list of results, each
the one its own operand determines; what stands behind them in the caller's list is untouched. -/
def Obligations.RunTakesEveryResult : Prop :=
  ∀ (ops : List Instr) (rest : List Stimulus) (s : State), s.AsWritten → s.pending = ops.map encodeInstr ++ rest →
    ∃ (t : State) (taken : List Transaction), RunsTo ops.length s t ∧ t.pending = rest ∧
      t.transcript = s.transcript ++ taken ∧ taken.map Transaction.op = ops ∧
      ∀ done ∈ taken, ClosedForm.Agrees done.op done.result

/-- A caller that presents only operands never sees a run stop (R101, R117). -/
def Obligations.OperandsNeverStopARun : Prop :=
  ∀ (k : Nat) (s : State), s.PresentsOperands → ∃ t, RunsTo k s t ∧ t.PresentsOperands
end

