-- ==== Sys2Proof/Laws/Decode.lean ====
section
/-! SUPPORT. When a presentation selects an operation, said once; proofs cite these and do not unfold `decodeStimulus`. -/

namespace Sys2Proof

theorem wellFormed_iff (st : Stimulus) :
    st.wellFormed = true ↔ st.width = st.path.operandWidth ∧ st.bits < 2 ^ st.width := by
  simp [Stimulus.wellFormed, Stimulus.fitsPort, Stimulus.fitsLines]

theorem decodeStimulus_of_wellFormed (st : Stimulus) (h : st.wellFormed = true) :
    decodeStimulus st = .ok (instrOn st.path st.bits) := by
  obtain ⟨hw, hb⟩ := (wellFormed_iff st).1 h
  rw [decodeStimulus, if_pos hw, if_pos hb]

theorem decodeStimulus_of_not_wellFormed (st : Stimulus) (h : st.wellFormed = false) :
    ∃ reason, decodeStimulus st = .error reason := by
  by_cases hw : st.width = st.path.operandWidth
  · by_cases hb : st.bits < 2 ^ st.width
    · rw [(wellFormed_iff st).2 ⟨hw, hb⟩] at h
      cases h
    · exact ⟨_, by rw [decodeStimulus, if_pos hw, if_neg hb]⟩
  · exact ⟨_, by rw [decodeStimulus, if_neg hw]⟩

theorem decodeStimulus_ok_iff (st : Stimulus) (i : Instr) :
    decodeStimulus st = .ok i ↔ st.wellFormed = true ∧ instrOn st.path st.bits = i := by
  cases hw : st.wellFormed with
  | true => simp [decodeStimulus_of_wellFormed st hw]
  | false =>
    obtain ⟨reason, hr⟩ := decodeStimulus_of_not_wellFormed st hw
    simp [hr]

end Sys2Proof
end

