-- ==== Sys2Proof/Laws/State.lean ====
section
/-! SUPPORT. One lemma per field of State and per update, true by rfl, so that no proof unfolds a record update; and what each
output port shows after each update. -/

namespace Sys2Proof.Machine.State

@[simp] theorem driveHIn_clampThreshold (s : State) (h : Float16Bits) : (s.driveHIn h).clampThreshold = s.clampThreshold := rfl
@[simp] theorem driveHIn_pending (s : State) (h : Float16Bits) : (s.driveHIn h).pending = s.pending := rfl
@[simp] theorem driveHIn_transcript (s : State) (h : Float16Bits) : (s.driveHIn h).transcript = s.transcript := rfl
@[simp] theorem driveHIn_ports_hIn (s : State) (h : Float16Bits) : (s.driveHIn h).ports.hIn = h := rfl
@[simp] theorem driveHIn_ports_fIn (s : State) (h : Float16Bits) : (s.driveHIn h).ports.fIn = s.ports.fIn := rfl
@[simp] theorem driveHIn_ports_mrUpIn (s : State) (h : Float16Bits) : (s.driveHIn h).ports.mrUpIn = s.ports.mrUpIn := rfl
@[simp] theorem driveHIn_ports_mrDnIn (s : State) (h : Float16Bits) : (s.driveHIn h).ports.mrDnIn = s.ports.mrDnIn := rfl
@[simp] theorem driveHIn_ports_ebaUpIn (s : State) (h : Float16Bits) : (s.driveHIn h).ports.ebaUpIn = s.ports.ebaUpIn := rfl
@[simp] theorem driveHIn_ports_ebaDnIn (s : State) (h : Float16Bits) : (s.driveHIn h).ports.ebaDnIn = s.ports.ebaDnIn := rfl
@[simp] theorem driveHIn_hOut (s : State) (h : Float16Bits) : (s.driveHIn h).hOut = s.hOut := rfl
@[simp] theorem driveHIn_mrUpOut (s : State) (h : Float16Bits) : (s.driveHIn h).mrUpOut = s.mrUpOut := rfl
@[simp] theorem driveHIn_mrDnOut (s : State) (h : Float16Bits) : (s.driveHIn h).mrDnOut = s.mrDnOut := rfl
@[simp] theorem driveHIn_ebaUpOut (s : State) (h : Float16Bits) : (s.driveHIn h).ebaUpOut = s.ebaUpOut := rfl
@[simp] theorem driveHIn_ebaDnOut (s : State) (h : Float16Bits) : (s.driveHIn h).ebaDnOut = s.ebaDnOut := rfl

@[simp] theorem driveFIn_clampThreshold (s : State) (i : Float32Bits) : (s.driveFIn i).clampThreshold = s.clampThreshold := rfl
@[simp] theorem driveFIn_pending (s : State) (i : Float32Bits) : (s.driveFIn i).pending = s.pending := rfl
@[simp] theorem driveFIn_transcript (s : State) (i : Float32Bits) : (s.driveFIn i).transcript = s.transcript := rfl
@[simp] theorem driveFIn_ports_hIn (s : State) (i : Float32Bits) : (s.driveFIn i).ports.hIn = s.ports.hIn := rfl
@[simp] theorem driveFIn_ports_fIn (s : State) (i : Float32Bits) : (s.driveFIn i).ports.fIn = i := rfl
@[simp] theorem driveFIn_ports_mrUpIn (s : State) (i : Float32Bits) : (s.driveFIn i).ports.mrUpIn = s.ports.mrUpIn := rfl
@[simp] theorem driveFIn_ports_mrDnIn (s : State) (i : Float32Bits) : (s.driveFIn i).ports.mrDnIn = s.ports.mrDnIn := rfl
@[simp] theorem driveFIn_ports_ebaUpIn (s : State) (i : Float32Bits) : (s.driveFIn i).ports.ebaUpIn = s.ports.ebaUpIn := rfl
@[simp] theorem driveFIn_ports_ebaDnIn (s : State) (i : Float32Bits) : (s.driveFIn i).ports.ebaDnIn = s.ports.ebaDnIn := rfl
@[simp] theorem driveFIn_fOut (s : State) (i : Float32Bits) : (s.driveFIn i).fOut = s.fOut := rfl
@[simp] theorem driveFIn_mrUpOut (s : State) (i : Float32Bits) : (s.driveFIn i).mrUpOut = s.mrUpOut := rfl
@[simp] theorem driveFIn_mrDnOut (s : State) (i : Float32Bits) : (s.driveFIn i).mrDnOut = s.mrDnOut := rfl
@[simp] theorem driveFIn_ebaUpOut (s : State) (i : Float32Bits) : (s.driveFIn i).ebaUpOut = s.ebaUpOut := rfl
@[simp] theorem driveFIn_ebaDnOut (s : State) (i : Float32Bits) : (s.driveFIn i).ebaDnOut = s.ebaDnOut := rfl

@[simp] theorem driveMrUpIn_clampThreshold (s : State) (x : U32) : (s.driveMrUpIn x).clampThreshold = s.clampThreshold := rfl
@[simp] theorem driveMrUpIn_pending (s : State) (x : U32) : (s.driveMrUpIn x).pending = s.pending := rfl
@[simp] theorem driveMrUpIn_transcript (s : State) (x : U32) : (s.driveMrUpIn x).transcript = s.transcript := rfl
@[simp] theorem driveMrUpIn_ports_hIn (s : State) (x : U32) : (s.driveMrUpIn x).ports.hIn = s.ports.hIn := rfl
@[simp] theorem driveMrUpIn_ports_fIn (s : State) (x : U32) : (s.driveMrUpIn x).ports.fIn = s.ports.fIn := rfl
@[simp] theorem driveMrUpIn_ports_mrUpIn (s : State) (x : U32) : (s.driveMrUpIn x).ports.mrUpIn = x := rfl
@[simp] theorem driveMrUpIn_ports_mrDnIn (s : State) (x : U32) : (s.driveMrUpIn x).ports.mrDnIn = s.ports.mrDnIn := rfl
@[simp] theorem driveMrUpIn_ports_ebaUpIn (s : State) (x : U32) : (s.driveMrUpIn x).ports.ebaUpIn = s.ports.ebaUpIn := rfl
@[simp] theorem driveMrUpIn_ports_ebaDnIn (s : State) (x : U32) : (s.driveMrUpIn x).ports.ebaDnIn = s.ports.ebaDnIn := rfl
@[simp] theorem driveMrUpIn_fOut (s : State) (x : U32) : (s.driveMrUpIn x).fOut = s.fOut := rfl
@[simp] theorem driveMrUpIn_hOut (s : State) (x : U32) : (s.driveMrUpIn x).hOut = s.hOut := rfl
@[simp] theorem driveMrUpIn_mrDnOut (s : State) (x : U32) : (s.driveMrUpIn x).mrDnOut = s.mrDnOut := rfl
@[simp] theorem driveMrUpIn_ebaUpOut (s : State) (x : U32) : (s.driveMrUpIn x).ebaUpOut = s.ebaUpOut := rfl
@[simp] theorem driveMrUpIn_ebaDnOut (s : State) (x : U32) : (s.driveMrUpIn x).ebaDnOut = s.ebaDnOut := rfl

@[simp] theorem driveMrDnIn_clampThreshold (s : State) (x : U32) : (s.driveMrDnIn x).clampThreshold = s.clampThreshold := rfl
@[simp] theorem driveMrDnIn_pending (s : State) (x : U32) : (s.driveMrDnIn x).pending = s.pending := rfl
@[simp] theorem driveMrDnIn_transcript (s : State) (x : U32) : (s.driveMrDnIn x).transcript = s.transcript := rfl
@[simp] theorem driveMrDnIn_ports_hIn (s : State) (x : U32) : (s.driveMrDnIn x).ports.hIn = s.ports.hIn := rfl
@[simp] theorem driveMrDnIn_ports_fIn (s : State) (x : U32) : (s.driveMrDnIn x).ports.fIn = s.ports.fIn := rfl
@[simp] theorem driveMrDnIn_ports_mrUpIn (s : State) (x : U32) : (s.driveMrDnIn x).ports.mrUpIn = s.ports.mrUpIn := rfl
@[simp] theorem driveMrDnIn_ports_mrDnIn (s : State) (x : U32) : (s.driveMrDnIn x).ports.mrDnIn = x := rfl
@[simp] theorem driveMrDnIn_ports_ebaUpIn (s : State) (x : U32) : (s.driveMrDnIn x).ports.ebaUpIn = s.ports.ebaUpIn := rfl
@[simp] theorem driveMrDnIn_ports_ebaDnIn (s : State) (x : U32) : (s.driveMrDnIn x).ports.ebaDnIn = s.ports.ebaDnIn := rfl
@[simp] theorem driveMrDnIn_fOut (s : State) (x : U32) : (s.driveMrDnIn x).fOut = s.fOut := rfl
@[simp] theorem driveMrDnIn_hOut (s : State) (x : U32) : (s.driveMrDnIn x).hOut = s.hOut := rfl
@[simp] theorem driveMrDnIn_mrUpOut (s : State) (x : U32) : (s.driveMrDnIn x).mrUpOut = s.mrUpOut := rfl
@[simp] theorem driveMrDnIn_ebaUpOut (s : State) (x : U32) : (s.driveMrDnIn x).ebaUpOut = s.ebaUpOut := rfl
@[simp] theorem driveMrDnIn_ebaDnOut (s : State) (x : U32) : (s.driveMrDnIn x).ebaDnOut = s.ebaDnOut := rfl

@[simp] theorem driveEbaUpIn_clampThreshold (s : State) (x : U32) : (s.driveEbaUpIn x).clampThreshold = s.clampThreshold := rfl
@[simp] theorem driveEbaUpIn_pending (s : State) (x : U32) : (s.driveEbaUpIn x).pending = s.pending := rfl
@[simp] theorem driveEbaUpIn_transcript (s : State) (x : U32) : (s.driveEbaUpIn x).transcript = s.transcript := rfl
@[simp] theorem driveEbaUpIn_ports_hIn (s : State) (x : U32) : (s.driveEbaUpIn x).ports.hIn = s.ports.hIn := rfl
@[simp] theorem driveEbaUpIn_ports_fIn (s : State) (x : U32) : (s.driveEbaUpIn x).ports.fIn = s.ports.fIn := rfl
@[simp] theorem driveEbaUpIn_ports_mrUpIn (s : State) (x : U32) : (s.driveEbaUpIn x).ports.mrUpIn = s.ports.mrUpIn := rfl
@[simp] theorem driveEbaUpIn_ports_mrDnIn (s : State) (x : U32) : (s.driveEbaUpIn x).ports.mrDnIn = s.ports.mrDnIn := rfl
@[simp] theorem driveEbaUpIn_ports_ebaUpIn (s : State) (x : U32) : (s.driveEbaUpIn x).ports.ebaUpIn = x := rfl
@[simp] theorem driveEbaUpIn_ports_ebaDnIn (s : State) (x : U32) : (s.driveEbaUpIn x).ports.ebaDnIn = s.ports.ebaDnIn := rfl
@[simp] theorem driveEbaUpIn_fOut (s : State) (x : U32) : (s.driveEbaUpIn x).fOut = s.fOut := rfl
@[simp] theorem driveEbaUpIn_hOut (s : State) (x : U32) : (s.driveEbaUpIn x).hOut = s.hOut := rfl
@[simp] theorem driveEbaUpIn_mrUpOut (s : State) (x : U32) : (s.driveEbaUpIn x).mrUpOut = s.mrUpOut := rfl
@[simp] theorem driveEbaUpIn_mrDnOut (s : State) (x : U32) : (s.driveEbaUpIn x).mrDnOut = s.mrDnOut := rfl
@[simp] theorem driveEbaUpIn_ebaDnOut (s : State) (x : U32) : (s.driveEbaUpIn x).ebaDnOut = s.ebaDnOut := rfl

@[simp] theorem driveEbaDnIn_clampThreshold (s : State) (x : U32) : (s.driveEbaDnIn x).clampThreshold = s.clampThreshold := rfl
@[simp] theorem driveEbaDnIn_pending (s : State) (x : U32) : (s.driveEbaDnIn x).pending = s.pending := rfl
@[simp] theorem driveEbaDnIn_transcript (s : State) (x : U32) : (s.driveEbaDnIn x).transcript = s.transcript := rfl
@[simp] theorem driveEbaDnIn_ports_hIn (s : State) (x : U32) : (s.driveEbaDnIn x).ports.hIn = s.ports.hIn := rfl
@[simp] theorem driveEbaDnIn_ports_fIn (s : State) (x : U32) : (s.driveEbaDnIn x).ports.fIn = s.ports.fIn := rfl
@[simp] theorem driveEbaDnIn_ports_mrUpIn (s : State) (x : U32) : (s.driveEbaDnIn x).ports.mrUpIn = s.ports.mrUpIn := rfl
@[simp] theorem driveEbaDnIn_ports_mrDnIn (s : State) (x : U32) : (s.driveEbaDnIn x).ports.mrDnIn = s.ports.mrDnIn := rfl
@[simp] theorem driveEbaDnIn_ports_ebaUpIn (s : State) (x : U32) : (s.driveEbaDnIn x).ports.ebaUpIn = s.ports.ebaUpIn := rfl
@[simp] theorem driveEbaDnIn_ports_ebaDnIn (s : State) (x : U32) : (s.driveEbaDnIn x).ports.ebaDnIn = x := rfl
@[simp] theorem driveEbaDnIn_fOut (s : State) (x : U32) : (s.driveEbaDnIn x).fOut = s.fOut := rfl
@[simp] theorem driveEbaDnIn_hOut (s : State) (x : U32) : (s.driveEbaDnIn x).hOut = s.hOut := rfl
@[simp] theorem driveEbaDnIn_mrUpOut (s : State) (x : U32) : (s.driveEbaDnIn x).mrUpOut = s.mrUpOut := rfl
@[simp] theorem driveEbaDnIn_mrDnOut (s : State) (x : U32) : (s.driveEbaDnIn x).mrDnOut = s.mrDnOut := rfl
@[simp] theorem driveEbaDnIn_ebaUpOut (s : State) (x : U32) : (s.driveEbaDnIn x).ebaUpOut = s.ebaUpOut := rfl

@[simp] theorem driveHIn_fOut (s : State) (h : Float16Bits) : (s.driveHIn h).fOut = fp16ToFp32 h := rfl
@[simp] theorem driveFIn_hOut (s : State) (i : Float32Bits) : (s.driveFIn i).hOut = fp32ToFp16 s.clampThreshold i := rfl
@[simp] theorem driveFIn_hOutBytes (s : State) (i : Float32Bits) :
    (s.driveFIn i).hOutBytes = bytesOf (fp32ToFp16 s.clampThreshold i) := rfl
@[simp] theorem driveMrUpIn_mrUpOut (s : State) (x : U32) : (s.driveMrUpIn x).mrUpOut = resampleUp x := rfl
@[simp] theorem driveMrDnIn_mrDnOut (s : State) (x : U32) : (s.driveMrDnIn x).mrDnOut = resampleDown x := rfl
@[simp] theorem driveEbaUpIn_ebaUpOut (s : State) (x : U32) : (s.driveEbaUpIn x).ebaUpOut = biasUp x := rfl
@[simp] theorem driveEbaDnIn_ebaDnOut (s : State) (x : U32) : (s.driveEbaDnIn x).ebaDnOut = biasDown x := rfl

@[simp] theorem take_clampThreshold (s : State) (i : Instr) (r : Result) : (s.take i r).clampThreshold = s.clampThreshold := rfl
@[simp] theorem take_ports (s : State) (i : Instr) (r : Result) : (s.take i r).ports = s.ports := rfl
@[simp] theorem take_pending (s : State) (i : Instr) (r : Result) : (s.take i r).pending = s.pending := rfl
@[simp] theorem take_transcript (s : State) (i : Instr) (r : Result) :
    (s.take i r).transcript = s.transcript ++ [⟨i, r⟩] := rfl

@[simp] theorem withPending_clampThreshold (s : State) (l : List Stimulus) :
    (s.withPending l).clampThreshold = s.clampThreshold := rfl
@[simp] theorem withPending_ports (s : State) (l : List Stimulus) : (s.withPending l).ports = s.ports := rfl
@[simp] theorem withPending_pending (s : State) (l : List Stimulus) : (s.withPending l).pending = l := rfl
@[simp] theorem withPending_transcript (s : State) (l : List Stimulus) : (s.withPending l).transcript = s.transcript := rfl

end Sys2Proof.Machine.State
end

