-- ==== Sys2Proof/Laws/Ops.lean ====
section
/-! SUPPORT. What the shared operations and `exec` can do, said once: `perform` always answers its one next state, and an
operation gives exactly one result, that of its unit's function. Proofs cite these and do not unfold the meanings. -/

namespace Sys2Proof.Machine

/-- The result of an operation under a value of the parameter. -/
def resultOf (threshold : U32) : Instr → Result
  | .resampleUp x => .word (resampleUp x)
  | .resampleDown x => .word (resampleDown x)
  | .biasUp x => .word (biasUp x)
  | .biasDown x => .word (biasDown x)
  | .decode h => .single (fp16ToFp32 h)
  | .encode i => .half (fp32ToFp16 threshold i)
  | .decodeBytes bytes => .single (fp16ToFp32 (wordOf bytes))
  | .encodeBytes value => .wire (bytesOf (fp32ToFp16 threshold value))

/-- The state with an operation's operand on its input port. -/
def State.driven (s : State) : Instr → State
  | .resampleUp x => s.driveMrUpIn x
  | .resampleDown x => s.driveMrDnIn x
  | .biasUp x => s.driveEbaUpIn x
  | .biasDown x => s.driveEbaDnIn x
  | .decode h => s.driveHIn h
  | .encode i => s.driveFIn i
  | .decodeBytes bytes => s.driveHIn (wordOf bytes)
  | .encodeBytes value => s.driveFIn value

@[simp] theorem State.driven_clampThreshold (s : State) (i : Instr) : (s.driven i).clampThreshold = s.clampThreshold := by
  cases i <;> rfl
@[simp] theorem State.driven_pending (s : State) (i : Instr) : (s.driven i).pending = s.pending := by cases i <;> rfl
@[simp] theorem State.driven_transcript (s : State) (i : Instr) : (s.driven i).transcript = s.transcript := by
  cases i <;> rfl

/-- All that `perform` can do. -/
theorem perform_next (op : Instr) (s t : State) (read : State → Result) (h : perform op s read = .next t) :
    t = s.take op (read s) := by
  simpa [perform] using h.symm

/-- All that `exec` can do: drive the operand, take the result of the unit's function. -/
theorem exec_eq_take (i : Instr) (s : State) : exec i s = .next ((s.driven i).take i (resultOf s.clampThreshold i)) := by
  cases i <;> rfl

/-- An operation gives exactly one result. -/
theorem gives_iff_resultOf (s : State) (i : Instr) (r : Result) : Gives s i r ↔ r = resultOf s.clampThreshold i := by
  constructor
  · rintro ⟨t, ht, hr⟩
    rw [exec_eq_take, Host.Outcome.next.injEq] at ht
    subst ht
    simpa using hr.symm
  · rintro rfl
    exact ⟨_, exec_eq_take i s, by simp⟩

end Sys2Proof.Machine
end

