-- ==== Sys2Proof/Laws/PerInstr.lean ====
section
/-! SUPPORT. Laws stated per operation, as syntax: the presentation that performs an operation fits the port it drives
(20_memory.md rule R32, 30_encoding.md rule R52). -/

namespace Sys2Proof.Laws.EncodedOperandFits

/-- The presentation is as wide as the port and carries no bit beyond it, and the operation is well formed (R55). -/
def Statement (i : Instr) : Prop := (encodeInstr i).wellFormed = true ∧ i.wellFormed = true

theorem wordFits {n : Nat} (p : Path) (x : BitVec n) (h : n = p.operandWidth) :
    (Stimulus.mk p n x.toNat).wellFormed = true := by
  simpa [Stimulus.wellFormed, Stimulus.fitsPort, Stimulus.fitsLines, h] using x.isLt

theorem resampleUp (x : U32) : Statement (.resampleUp x) := ⟨wordFits .resamplerUp x rfl, rfl⟩
theorem resampleDown (x : U32) : Statement (.resampleDown x) := ⟨wordFits .resamplerDown x rfl, rfl⟩
theorem biasUp (x : U32) : Statement (.biasUp x) := ⟨wordFits .adjusterUp x rfl, rfl⟩
theorem biasDown (x : U32) : Statement (.biasDown x) := ⟨wordFits .adjusterDown x rfl, rfl⟩
theorem decode (h : Float16Bits) : Statement (.decode h) := ⟨wordFits .halfWord h rfl, rfl⟩
theorem encode (i : Float32Bits) : Statement (.encode i) := ⟨wordFits .singleWord i rfl, rfl⟩
theorem decodeBytes (bytes : Wire16) : Statement (.decodeBytes bytes) := by
  refine ⟨?_, rfl⟩
  have h0 := bytes.byte0.isLt
  have h1 := bytes.byte1.isLt
  have fits : bytes.byte0.toNat + 256 * bytes.byte1.toNat < 2 ^ 16 := by omega
  exact Bool.and_eq_true_iff.2 ⟨rfl, decide_eq_true fits⟩
theorem encodeBytes (value : Float32Bits) : Statement (.encodeBytes value) := ⟨wordFits .singleToByteLanes value rfl, rfl⟩

end Sys2Proof.Laws.EncodedOperandFits
end

