-- ==== Sys2Proof/Laws/Units.lean ====
section
/-! SUPPORT. The sub-unit functions and the byte assembly as arithmetic on numbers, and how the constants of 10_state.md rule
R15 are related (R16). -/

namespace Sys2Proof.Machine

theorem resampleUp_toNat (x : U32) : (resampleUp x).toNat = x.toNat * 8192 % 2 ^ 32 := by
  rw [resampleUp, Config.shift, BitVec.toNat_shiftLeft, Nat.shiftLeft_eq]

theorem resampleDown_toNat (x : U32) : (resampleDown x).toNat = x.toNat / 8192 := by
  rw [resampleDown, Config.shift, BitVec.toNat_ushiftRight, Nat.shiftRight_eq_div_pow]

theorem biasUp_toNat (x : U32) : (biasUp x).toNat = (x.toNat + 0x38000000) % 2 ^ 32 := BitVec.toNat_add x _

theorem biasDown_toNat_of_le (x : U32) (h : 0x1C000 ≤ x.toNat) : (biasDown x).toNat = x.toNat - 0x1C000 := by
  have hc : (0x0001C000#32).toNat = 0x1C000 := rfl
  rw [biasDown, Config.biasDownConst, BitVec.toNat_sub, hc]
  omega

/-- `h_in = (bytes[1], bytes[0])` as a concatenation (R27). -/
theorem wordOf_eq_append (bytes : Wire16) : wordOf bytes = bytes.byte1 ++ bytes.byte0 := by
  refine BitVec.eq_of_getLsbD_eq fun k hk => ?_
  simp only [wordOf, BitVec.getLsbD_or, BitVec.getLsbD_setWidth, BitVec.getLsbD_shiftLeft, BitVec.getLsbD_append, hk]
  by_cases h8 : k < 8
  · simp [h8]
  · have hz : bytes.byte0.getLsbD k = false := BitVec.getLsbD_of_ge _ _ (by omega)
    have hk' : k - 8 < 16 := by omega
    simp [h8, hz, hk']

theorem wordOf_toNat (bytes : Wire16) : (wordOf bytes).toNat = bytes.byte0.toNat + 256 * bytes.byte1.toNat := by
  rw [wordOf_eq_append, BitVec.toNat_append, ← Nat.shiftLeft_add_eq_or_of_lt bytes.byte0.isLt, Nat.shiftLeft_eq]
  omega

/-- `word_of(bytes_of(h)) = h` (R89). -/
theorem wordOf_bytesOf (h : Float16Bits) : wordOf (bytesOf h) = h := by
  apply BitVec.eq_of_toNat_eq
  have hh := h.isLt
  simp only [wordOf_toNat, bytesOf, BitVec.extractLsb'_toNat, Nat.shiftRight_eq_div_pow]
  omega

/-- `bytes_of(word_of(b)) = b` (R89). -/
theorem bytesOf_wordOf (bytes : Wire16) : bytesOf (wordOf bytes) = bytes := by
  have h0 := bytes.byte0.isLt
  have h1 := bytes.byte1.isLt
  have e0 : (bytesOf (wordOf bytes)).byte0 = bytes.byte0 := by
    apply BitVec.eq_of_toNat_eq
    simp only [bytesOf, BitVec.extractLsb'_toNat, Nat.shiftRight_eq_div_pow, wordOf_toNat]
    omega
  have e1 : (bytesOf (wordOf bytes)).byte1 = bytes.byte1 := by
    apply BitVec.eq_of_toNat_eq
    simp only [bytesOf, BitVec.extractLsb'_toNat, Nat.shiftRight_eq_div_pow, wordOf_toNat]
    omega
  calc bytesOf (wordOf bytes) = ⟨(bytesOf (wordOf bytes)).byte0, (bytesOf (wordOf bytes)).byte1⟩ := rfl
    _ = bytes := by rw [e0, e1]

/-- A mask of `w` ones at position `k` keeps a field in place (R49, R50). -/
theorem and_mask_eq_field (x w k : Nat) : x &&& ((2 ^ w - 1) <<< k) = x / 2 ^ k % 2 ^ w * 2 ^ k := by
  rw [← Nat.shiftRight_eq_div_pow, ← Nat.and_two_pow_sub_one_eq_mod, ← Nat.shiftLeft_eq]
  refine Nat.eq_of_testBit_eq fun j => ?_
  simp only [Nat.testBit_and, Nat.testBit_shiftLeft, Nat.testBit_shiftRight]
  by_cases h : k ≤ j
  · simp [h]
  · simp [h]

theorem zext32_toNat (h : U16) : (zext32 h).toNat = h.toNat := by
  rw [zext32, BitVec.toNat_setWidth]
  exact Nat.mod_eq_of_lt (by omega)

theorem dNonsign_toNat (h : Float16Bits) : (dNonsign h).toNat = h.toNat % 2 ^ 15 := by
  rw [dNonsign, BitVec.toNat_and, zext32_toNat]
  exact Nat.and_two_pow_sub_one_eq_mod h.toNat 15

theorem dExpbits_toNat (h : Float16Bits) : (dExpbits h).toNat = h.toNat / 2 ^ 10 % 2 ^ 5 * 2 ^ 10 := by
  rw [dExpbits, BitVec.toNat_and, zext32_toNat]
  exact and_mask_eq_field h.toNat 5 10

theorem dSign_toNat (h : Float16Bits) : (dSign h).toNat = h.toNat / 2 ^ 15 * 2 ^ 15 := by
  have hm : (dSign h).toNat = h.toNat / 2 ^ 15 % 2 ^ 1 * 2 ^ 15 := by
    rw [dSign, BitVec.toNat_and, zext32_toNat]
    exact and_mask_eq_field h.toNat 1 15
  have hh : h.toNat / 2 ^ 15 < 2 ^ 1 := by have := h.isLt; omega
  rw [hm, Nat.mod_eq_of_lt hh]

theorem dSign32_toNat (h : Float16Bits) : (dSign32 h).toNat = h.toNat / 2 ^ 15 * 2 ^ 31 := by
  rw [dSign32, Config.signShift, BitVec.toNat_shiftLeft, Nat.shiftLeft_eq, dSign_toNat]
  have hh := h.isLt
  omega

/-- `d_is_daz` in terms of `e5` (R20). -/
theorem dIsDaz_iff (h : Float16Bits) : dIsDaz h = true ↔ h.toNat / 2 ^ 10 % 2 ^ 5 = 0 := by
  rw [dIsDaz, beq_iff_eq, ← BitVec.toNat_inj, dExpbits_toNat, BitVec.toNat_ofNat]
  omega

theorem eNonsign_toNat (i : Float32Bits) : (eNonsign i).toNat = i.toNat % 2 ^ 31 := by
  rw [eNonsign, BitVec.toNat_and]
  exact Nat.and_two_pow_sub_one_eq_mod i.toNat 31

theorem eExpbits_toNat (i : Float32Bits) : (eExpbits i).toNat = i.toNat / 2 ^ 23 % 2 ^ 8 * 2 ^ 23 := by
  rw [eExpbits, BitVec.toNat_and]
  exact and_mask_eq_field i.toNat 8 23

theorem eSign16_toNat (i : Float32Bits) : (eSign16 i).toNat = i.toNat / 2 ^ 31 * 2 ^ 15 := by
  have hm : (eSign i).toNat = i.toNat / 2 ^ 31 % 2 ^ 1 * 2 ^ 31 := by
    rw [eSign, BitVec.toNat_and]
    exact and_mask_eq_field i.toNat 1 31
  have hi : i.toNat / 2 ^ 31 < 2 ^ 1 := by have := i.isLt; omega
  rw [eSign16, Config.signShift, BitVec.toNat_ushiftRight, Nat.shiftRight_eq_div_pow, hm, Nat.mod_eq_of_lt hi]
  omega

/-- `e_is_daz` in terms of `E8` (R63). -/
theorem eIsDaz_iff (i : Float32Bits) : eIsDaz i = true ↔ i.toNat / 2 ^ 23 % 2 ^ 8 = 0 := by
  rw [eIsDaz, beq_iff_eq, ← BitVec.toNat_inj, eExpbits_toNat, BitVec.toNat_ofNat]
  omega

/-- `e_is_ftz` in terms of `E8` (R63). -/
theorem eIsFtz_iff (i : Float32Bits) : eIsFtz i = true ↔ i.toNat / 2 ^ 23 % 2 ^ 8 < 113 := by
  rw [eIsFtz, BitVec.ult, decide_eq_true_eq, eExpbits_toNat]
  have hc : (Config.ftzThreshold).toNat = 0x38800000 := rfl
  rw [hc]
  omega

/-- `e_is_clamp` in terms of `E8` (R63). -/
theorem eIsClamp_iff (threshold : U32) (i : Float32Bits) :
    eIsClamp threshold i = true ↔ threshold.toNat < i.toNat / 2 ^ 23 % 2 ^ 8 * 2 ^ 23 := by
  rw [eIsClamp, BitVec.ult, decide_eq_true_eq, eExpbits_toNat]

/-- The relations of R16 between the constants: the bias difference at either format's exponent position, the threshold of the
smallest normal, and twice the exponent field 142. -/
theorem constants_related :
    Config.f32Bias - Config.f16Bias = 112 ∧
    Config.biasUpConst = 112#32 <<< Config.f32MantBits ∧
    Config.biasDownConst = 112#32 <<< Config.f16MantBits ∧
    Config.biasUpConst >>> Config.shift = Config.biasDownConst ∧
    Config.ftzThreshold = 113#32 <<< Config.f32MantBits ∧
    Config.clampThresholdAsWritten = 2#32 * (142#32 <<< Config.f32MantBits) ∧
    Config.shift = Config.f32MantBits - Config.f16MantBits ∧
    Config.f32Width = 1 + Config.f32ExpBits + Config.f32MantBits ∧
    Config.f16Width = 1 + Config.f16ExpBits + Config.f16MantBits := by decide

end Sys2Proof.Machine
end

