-- ==== Sys2Proof/Tests/Slice0.lean ====
section
/-! SUPPORT. Tests of the model. Expected results are those of 95_test_vectors.md (rows of sections 1 and 2) and of the worked
examples of the rules; words are written out from the layouts of 30_encoding.md rules R45 to R47. Then, for every statement of
Obligations.lean with hypotheses, a witness that meets them. -/

namespace Sys2Proof.Tests
open Sys2Proof.Machine Sys2Proof.ClosedForm

/-- The last result a caller has taken. -/
def lastResult : Host.Outcome State Fault Refusal → Option Result
  | .next t => t.transcript.getLast?.map Transaction.result
  | .fault _ => none
  | .refused _ => none

/-- What an outcome was refused for. -/
def refusal : Host.Outcome State Fault Refusal → Option Refusal
  | .next _ => none
  | .fault _ => none
  | .refused reason => some reason

/-- An instance in the effective-clamp configuration. -/
def effectiveClamp : State := { State.reset with clampThreshold := 0x47000000#32 }

/-! ## Well-formedness: each check refuses an ill-formed presentation -/

theorem test_half_port_refuses_eight_lines : (Stimulus.mk .halfWord 8 0x49).wellFormed = false := by decide
theorem test_byte_lanes_refuse_three_bytes : (Stimulus.mk .halfByteLanes 24 0x490000).wellFormed = false := by decide
theorem test_lines_refuse_a_bit_beyond_them : (Stimulus.mk .halfWord 16 0x10000).wellFormed = false := by decide
theorem test_whole_half_word_is_well_formed : (Stimulus.mk .halfWord 16 0xFFFF).wellFormed = true := by decide

/-! ## Decoding: every path's word, written out bit by bit -/

theorem test_decode_resample_up :
    decodeStimulus ⟨.resamplerUp, 32, 0b00000000000000000100100100000000⟩ = .ok (.resampleUp 0x00004900#32) := by rfl
theorem test_decode_resample_down :
    decodeStimulus ⟨.resamplerDown, 32, 0b01000001001000000000000000000000⟩ = .ok (.resampleDown 0x41200000#32) := by rfl
theorem test_decode_bias_up :
    decodeStimulus ⟨.adjusterUp, 32, 0b00001001001000000000000000000000⟩ = .ok (.biasUp 0x09200000#32) := by rfl
theorem test_decode_bias_down :
    decodeStimulus ⟨.adjusterDown, 32, 0b00000000000000100000100100000000⟩ = .ok (.biasDown 0x00020900#32) := by rfl
theorem test_decode_decode :
    decodeStimulus ⟨.halfWord, 16, 0b1011111000000000⟩ = .ok (.decode 0xBE00#16) := by rfl
theorem test_decode_encode :
    decodeStimulus ⟨.singleWord, 32, 0b01000000010010010000111111011011⟩ = .ok (.encode 0x40490FDB#32) := by rfl
/-- The first byte of the wire form is on the low lanes: `[0x66, 0x2A]`. -/
theorem test_decode_decode_bytes :
    decodeStimulus ⟨.halfByteLanes, 16, 0b0010101001100110⟩ = .ok (.decodeBytes ⟨0x66#8, 0x2A#8⟩) := by rfl
theorem test_decode_encode_bytes :
    decodeStimulus ⟨.singleToByteLanes, 32, 0b10111111110000000000000000000000⟩ = .ok (.encodeBytes 0xBFC00000#32) := by rfl
theorem test_decode_rejects_wrong_width :
    decodeStimulus ⟨.halfWord, 8, 0x49⟩ = .error (.wrongWidth .halfWord 8) := by rfl
theorem test_decode_rejects_bits_beyond_lines :
    decodeStimulus ⟨.singleWord, 32, 0x100000000⟩ = .error (.bitsBeyondWidth 32 0x100000000) := by rfl
theorem test_table_word_16 : decodeTableWord 16 0x4900 = some (.decode 0x4900#16) := by decide
theorem test_table_word_32 : decodeTableWord 32 0x41200000 = some (.encode 0x41200000#32) := by decide
theorem test_table_word_other_width : decodeTableWord 24 0x490000 = none := by decide

/-! ## Operations: one step on the reset state (95_test_vectors.md sections 2.1 to 2.8) -/

theorem test_resample_up_loses_high_bits :
    lastResult (exec (.resampleUp 0xFFFFFFFF#32) State.reset) = some (.word 0xFFFFE000#32) := by decide
theorem test_resample_down_truncates :
    lastResult (exec (.resampleDown 0x3FFFFFFF#32) State.reset) = some (.word 0x0001FFFF#32) := by decide
theorem test_resample_down_is_logical :
    lastResult (exec (.resampleDown 0xFFFFFFFF#32) State.reset) = some (.word 0x0007FFFF#32) := by decide
theorem test_bias_up_wraps :
    lastResult (exec (.biasUp 0xFFFFFFFF#32) State.reset) = some (.word 0x37FFFFFF#32) := by decide
theorem test_bias_down_exact :
    lastResult (exec (.biasDown 0x00023BFF#32) State.reset) = some (.word 0x00007BFF#32) := by decide
theorem test_bias_down_borrow :
    lastResult (exec (.biasDown 0x00000000#32) State.reset) = some (.word 0xFFFE4000#32) := by decide
theorem test_decode_negative_subnormal :
    lastResult (exec (.decode 0x83FF#16) State.reset) = some (.single 0x80000000#32) := by decide
theorem test_decode_nan_pattern :
    lastResult (exec (.decode 0xFFFF#16) State.reset) = some (.single 0xC7FFE000#32) := by decide
theorem test_encode_spills_into_sign :
    lastResult (exec (.encode 0x577FE000#32) State.reset) = some (.half 0xFBFF#16) := by decide
theorem test_encode_effective_clamp :
    lastResult (exec (.encode 0xC7C35000#32) effectiveClamp) = some (.half 0xFBFF#16) := by decide
theorem test_decode_bytes_low_byte_first :
    lastResult (exec (.decodeBytes ⟨0x80#8, 0x00#8⟩) State.reset) = some (.single 0x00000000#32) := by decide
theorem test_decode_bytes_scenario :
    lastResult (exec (.decodeBytes ⟨0x66#8, 0x2A#8⟩) State.reset) = some (.single 0x3D4CC000#32) := by decide
theorem test_encode_bytes_scenario :
    lastResult (exec (.encodeBytes 0x3A83126F#32) State.reset) = some (.wire ⟨0x18#8, 0x14#8⟩) := by decide
theorem test_encode_bytes_infinity :
    lastResult (exec (.encodeBytes 0x7F800000#32) State.reset) = some (.wire ⟨0x00#8, 0x3C#8⟩) := by decide

/-- The threshold rows of section 2.6 that lie in neither configuration: `0x47800000` clamps from `E8 = 144` on. -/
theorem test_encode_other_threshold :
    fp32ToFp16 0x47800000#32 0x47FFFFFF#32 = 0x7FFF#16 ∧ fp32ToFp16 0x47800000#32 0x48000000#32 = 0x7BFF#16 ∧
      fp32ToFp16 0x46800000#32 0x47000000#32 = 0x7BFF#16 := by decide

theorem test_step_runs_the_fetched_word :
    lastResult (step (State.reset.withFetchWord 32 0x42C80000)) = some (.half 0x5640#16) := by decide
theorem test_step_refuses_what_fits_no_port :
    refusal (step (State.reset.withPending [⟨.halfWord, 8, 0x49⟩])) = some (.notAnOperand (.wrongWidth .halfWord 8)) := by
  decide

/-! ## Witnesses: the hypotheses of each statement can be met, each clause at the ends of its range -/

theorem witness_ResampleUpMultipliesBy8192 : (0x7FFF#32).toNat ≤ 0x7FFF ∧ ¬(0x8000#32).toNat ≤ 0x7FFF := by decide
theorem witness_ResampleDownDividesBy8192 :
    (0x1FFF#32).toNat ≤ 0x1FFF ∧ (0x7FFFFFFF#32).toNat ≤ 0x7FFFFFFF ∧ ¬(0x80000000#32).toNat ≤ 0x7FFFFFFF := by decide
theorem witness_ResamplerNarrowsByTruncation :
    (0x7FFFFFFF#32).toNat < 2 ^ 31 ∧ (0x0007FFFF#32).toNat < 2 ^ 19 := by decide
theorem witness_BiasUpAddsBiasDifference :
    (0x0FFFE000#32).toNat ≤ 0x0FFFE000 ∧ ¬(0xC8000000#32).toNat ≤ 0x0FFFE000 := by decide
theorem witness_BiasDownWithoutBorrow :
    0x0001C000 ≤ (0x0001C000#32).toNat ∧ 0x0001C000 ≤ (0x0003FFFF#32).toNat ∧ (0x0003FFFF#32).toNat ≤ 0x0003FFFF ∧
      ¬(0xFFFFFFFF#32).toNat ≤ 0x0003FFFF := by decide
theorem witness_BiasDownWithBorrowCompletes : (0x0001BFFF#32).toNat < 0x0001C000 := by decide
theorem witness_SubUnitPathsInverseOnDecoderRange : (0x7FFF#32).toNat ≤ 0x7FFF := by decide
theorem witness_DecodeOfInfinityAndNanPatterns : halfExp 0x7C00#16 = 31#5 ∧ halfExp 0xFFFF#16 = 31#5 := by decide
theorem witness_EncodeFollowsStepList : State.reset.AsWritten := by decide
theorem witness_EncodeClosedFormAsWritten : 0x7F800000 ≤ State.reset.clampThreshold.toNat := by decide
theorem witness_EncodeClosedFormEffectiveClamp : effectiveClamp.EffectiveClamp := by decide
theorem witness_ParameterActsThroughClampedExponents :
    (∀ e : BitVec 8, State.reset.clampThreshold.toNat < e.toNat * 2 ^ 23 ↔
      ({ State.reset with clampThreshold := 0x7F800000#32 } : State).clampThreshold.toNat < e.toNat * 2 ^ 23) ∧
    Gives State.reset (.encode 0x41200000#32) (.half 0x4900#16) :=
  ⟨by decide, (gives_iff_resultOf _ _ _).2 (by decide)⟩
/-- The three cases at `E8` of 0, 143 under the effective clamp, and 112 under either parameter; the last clause's two sides at
the threshold `0x37FFFFFF`. -/
theorem witness_EncodeOverridePriority :
    singleExp 0x807FFFFF#32 = 0#8 ∧
    effectiveClamp.clampThreshold.toNat < (singleExp 0x47800000#32).toNat * 2 ^ 23 ∧
    ((singleExp 0x387FFFFF#32).toNat * 2 ^ 23 ≤ State.reset.clampThreshold.toNat ∧ (singleExp 0x387FFFFF#32).toNat < 113) ∧
    ((0x37FFFFFF#32).toNat < (singleExp 0x387FFFFF#32).toNat * 2 ^ 23 ∧ (0x37FFFFFF#32).toNat < 0x38000000) := by decide
theorem witness_OverflowSpillsIntoSignAndExponent :
    State.reset.AsWritten ∧ (singleExp 0x47800000#32).toNat = 143 ∧
    (singleExp 0x48000000#32).toNat = 144 ∧ (singleExp 0x57FFFFFF#32).toNat = 175 ∧
    (singleExp 0x58000000#32).toNat = 176 ∧ (singleExp 0x67FFFFFF#32).toNat = 207 ∧
    (singleExp 0x68000000#32).toNat = 208 ∧ (singleExp 0x77FFFFFF#32).toNat = 239 ∧
    (singleExp 0x78000000#32).toNat = 240 ∧ (singleExp 0xFFFFFFFF#32).toNat = 255 := by decide
theorem witness_EncodeOfInfinityAndNanOperands :
    singleExp 0x7F800000#32 = 255#8 ∧ (State.reset.AsWritten ∨ State.reset.EffectiveClamp) ∧
      (effectiveClamp.AsWritten ∨ effectiveClamp.EffectiveClamp) := by decide
theorem witness_EncodeReachesEveryHalfPattern : State.reset.AsWritten := by decide
theorem witness_EncodeImageEffectiveClamp : effectiveClamp.EffectiveClamp := by decide
theorem witness_EncodeSharesResultsByDiscardedBits :
    State.reset.AsWritten ∧ (singleExp 0x38800000#32).toNat = 113 ∧ (singleExp 0x47FFFFFF#32).toNat = 143 := by decide
theorem witness_EncodeBytesEmitsLowByteFirst : State.reset.AsWritten := by decide
theorem witness_WireRoundTrip : State.reset.AsWritten := by decide
theorem witness_HalfRoundTrip : State.reset.AsWritten ∧ effectiveClamp.EffectiveClamp := by decide
theorem witness_DenormalsAsZeroOnDecode : 0x83FF#16 &&& 0x7C00#16 = 0#16 := by decide
theorem witness_FlushToZeroOnEncode :
    (State.reset.AsWritten ∨ State.reset.EffectiveClamp) ∧ (effectiveClamp.AsWritten ∨ effectiveClamp.EffectiveClamp) ∧
      (0xB87FFFFF#32 &&& 0x7F800000#32).toNat < 0x38800000 := by decide
theorem witness_MaximumMagnitudeResults :
    State.reset.AsWritten ∧ effectiveClamp.EffectiveClamp ∧ 143 ≤ (singleExp 0x47800000#32).toNat ∧
      (singleExp 0x477FE000#32).toNat = 142 ∧ keptMant 0x477FE000#32 = 0x3FF#10 := by decide
theorem witness_EncodeSignIndependence :
    State.reset.AsWritten ∧ effectiveClamp.EffectiveClamp ∧ (singleExp 0x48000000#32).toNat = 144 ∧
      (singleExp 0x77FFFFFF#32).toNat = 239 := by decide
theorem witness_TruncationLaw :
    State.reset.AsWritten ∧ effectiveClamp.EffectiveClamp ∧ (singleExp 0x387FFFFF#32).toNat = 112 ∧
      (singleExp 0x38800000#32).toNat = 113 ∧ (singleExp 0x477FFFFF#32).toNat = 142 ∧
      (singleExp 0x47C35000#32).toNat = 143 := by decide
theorem witness_ReEncoding : State.reset.AsWritten ∧ effectiveClamp.EffectiveClamp := by decide
theorem witness_ResultDependsOnOperandAlone :
    (State.reset.clampThreshold = effectiveClamp.clampThreshold ∨
      ∀ v : Float32Bits, Instr.decode 0x4900#16 ≠ .encode v ∧ Instr.decode 0x4900#16 ≠ .encodeBytes v) ∧
    Gives State.reset (.decode 0x4900#16) (.single 0x41200000#32) :=
  ⟨.inr fun _ => ⟨Instr.noConfusion, Instr.noConfusion⟩, (gives_iff_resultOf _ _ _).2 (by decide)⟩
theorem witness_OperationFrame : ∃ t, exec (.decodeBytes ⟨0x00#8, 0x49#8⟩) State.reset = .next t := ⟨_, rfl⟩
theorem witness_OutputPortShowsResult : ∃ t, exec (.encode 0x41200000#32) State.reset = .next t := ⟨_, rfl⟩
theorem witness_RepeatedOperationIsIdempotent : ∃ t, exec (.biasDown 0#32) State.reset = .next t := ⟨_, rfl⟩
theorem witness_StepPerformsPresentedOperation :
    (State.reset.withFetchWord 16 0x4900).pending = ⟨.halfWord, 16, 0x4900⟩ :: [] ∧
      decodeStimulus ⟨.halfWord, 16, 0x4900⟩ = .ok (.decode 0x4900#16) := ⟨rfl, rfl⟩
theorem witness_NothingPresentedChangesNothing : State.reset.pending = [] := rfl
theorem witness_IllFittingPresentationIsRefused :
    (State.reset.withFetchWord 24 0).pending = ⟨.singleWord, 24, 0⟩ :: [] ∧
      (Stimulus.mk .singleWord 24 0).wellFormed = false := by decide
theorem witness_ParameterIsFixedForLife : ∃ t, RunsTo 1 (State.reset.withFetchWord 16 0x4900) t := ⟨_, rfl⟩
/-- A state with a right result behind it and an operation before it. -/
theorem witness_StepKeepsTranscriptSound :
    ∃ s t : State, TranscriptSound s ∧ s.transcript ≠ [] ∧ step s = .next t ∧ t.transcript ≠ s.transcript := by
  refine ⟨(State.reset.withFetchWord 16 0x4900).take (.resampleDown 0x2000#32) (.word 1#32), _, ⟨rfl, ?_⟩, ?_, rfl, ?_⟩
  · intro done h
    rw [show done = ⟨.resampleDown 0x2000#32, .word 1#32⟩ by simpa [State.take, State.reset, State.withFetchWord] using h]
    exact ⟨1#32, rfl, rfl⟩
  · decide
  · decide
theorem witness_RunTakesEveryResult :
    State.reset.AsWritten ∧
      (State.reset.withPending [⟨.halfWord, 16, 0x4900⟩]).pending = [Instr.decode 0x4900#16].map encodeInstr ++ [] := by
  decide
theorem witness_OperandsNeverStopARun : (State.reset.withFetchWord 16 0x4900).PresentsOperands := by decide

end Sys2Proof.Tests
end

section
/-! SUPPORT. Proofs about `mantissa_resampler` (40_mantissa_resampler.md): where the two shifts carry the fields of a word,
then the statements O1 and O2. -/

namespace Sys2Proof.Machine
open Sys2Proof.ClosedForm

/-- A bit field as number arithmetic (R7). -/
theorem toNat_field {n : Nat} (x : BitVec n) (k w : Nat) : (x.extractLsb' k w).toNat = x.toNat / 2 ^ k % 2 ^ w := by
  rw [BitVec.extractLsb'_toNat, Nat.shiftRight_eq_div_pow]

theorem keptMant_toNat (x : Float32Bits) : (keptMant x).toNat = x.toNat / 2 ^ 13 % 2 ^ 10 := by
  rw [keptMant, singleMant, toNat_field, toNat_field]
  omega

/-! ### The up path -/

/-- On the decoder's range nothing is shifted out (R66). -/
theorem resampleUp_toNat_of_le (x : U32) (h : x.toNat ≤ 0x7FFF) : (resampleUp x).toNat = x.toNat * 8192 := by
  rw [resampleUp_toNat]
  omega

theorem resampleUp_low_field (x : U32) : (resampleUp x).extractLsb' 0 13 = 0#13 := by
  apply BitVec.eq_of_toNat_eq
  rw [toNat_field, resampleUp_toNat, BitVec.toNat_ofNat]
  omega

theorem resampleUp_high_field_of_le (x : U32) (h : x.toNat ≤ 0x7FFF) : (resampleUp x).extractLsb' 28 4 = 0#4 := by
  apply BitVec.eq_of_toNat_eq
  rw [toNat_field, resampleUp_toNat_of_le x h, BitVec.toNat_ofNat]
  omega

theorem resampleUp_mantissa_field (x : U32) : (resampleUp x).extractLsb' 13 10 = x.extractLsb' 0 10 := by
  apply BitVec.eq_of_toNat_eq
  rw [toNat_field, toNat_field, resampleUp_toNat]
  omega

/-! ### The down path -/

theorem resampleDown_eq_zero_of_le (x : U32) (h : x.toNat ≤ 0x1FFF) : resampleDown x = 0#32 := by
  apply BitVec.eq_of_toNat_eq
  rw [resampleDown_toNat, BitVec.toNat_ofNat]
  omega

theorem resampleDown_toNat_le (x : U32) (h : x.toNat ≤ 0x7FFFFFFF) : (resampleDown x).toNat ≤ 0x0003FFFF := by
  rw [resampleDown_toNat]
  omega

theorem resampleDown_mantissa_field (x : U32) : (resampleDown x).extractLsb' 0 10 = keptMant x := by
  apply BitVec.eq_of_toNat_eq
  rw [toNat_field, keptMant_toNat, resampleDown_toNat]
  omega

theorem resampleDown_exponent_field (x : U32) : (resampleDown x).extractLsb' 10 8 = singleExp x := by
  apply BitVec.eq_of_toNat_eq
  rw [singleExp, toNat_field, toNat_field, resampleDown_toNat]
  omega

/-- Operands that agree above bit 12 give the same result: the discarded bits never reach the kept ones (R67). -/
theorem resampleDown_eq_of_div_eq (x y : U32) (h : x.toNat / 8192 = y.toNat / 8192) : resampleDown x = resampleDown y := by
  apply BitVec.eq_of_toNat_eq
  rw [resampleDown_toNat, resampleDown_toNat, h]

/-! ### The statements -/

/-- Settles O1: the frame is `exec_eq_take`, the clauses are the field lemmas of the up path. -/
theorem resampleUpMultipliesBy8192 : Obligations.ResampleUpMultipliesBy8192 := by
  intro s x
  refine ⟨resampleUp x, exec_eq_take (.resampleUp x) s, resampleUp_toNat x, fun hx => ?decoderRange, ?worked⟩
  case decoderRange =>
    have exact_product := resampleUp_toNat_of_le x hx
    exact ⟨exact_product, by omega, resampleUp_low_field x, resampleUp_high_field_of_le x hx, resampleUp_mantissa_field x⟩
  case worked =>
    rintro rfl
    decide

/-- Settles O2: the frame is `exec_eq_take`, the clauses are the field lemmas of the down path. -/
theorem resampleDownDividesBy8192 : Obligations.ResampleDownDividesBy8192 := by
  intro s x
  refine ⟨resampleDown x, exec_eq_take (.resampleDown x) s, resampleDown_toNat x, resampleDown_eq_zero_of_le x,
    fun hx => ⟨resampleDown_toNat_le x hx, resampleDown_mantissa_field x, resampleDown_exponent_field x⟩,
    ?discarded, ?truncated, ?worked⟩
  case discarded =>
    have at_one : resampleDown 0x3F800000#32 = 0x0001FC00#32 := by decide
    rintro (rfl | rfl)
    · exact (resampleDown_eq_of_div_eq 0x3F801FFF#32 0x3F800000#32 (by decide)).trans at_one
    · exact at_one
  case truncated =>
    rintro rfl
    decide
  case worked =>
    rintro rfl
    decide

end Sys2Proof.Machine
end

section
/-! SUPPORT. Proofs about `fp16_to_fp32_converter` (42_fp16_to_fp32_converter.md): the wires of the decoder as numbers, in the
order of R74's steps, then the statement O8. -/

namespace Sys2Proof.Machine

/-! ### The wires of the decoder -/

/-- Step 2: the non-sign field keeps all its bits, for it has only 15 (R66). -/
theorem dWide_toNat (h : Float16Bits) : (dWide h).toNat = h.toNat % 2 ^ 15 * 8192 := by
  have fits : (dNonsign h).toNat ≤ 0x7FFF := by
    rw [dNonsign_toNat]
    omega
  rw [dWide, resampleUp_toNat_of_le _ fits, dNonsign_toNat]

/-- Step 4: the addition of the bias difference does not wrap. -/
theorem dRebias_toNat (h : Float16Bits) : (dRebias h).toNat = h.toNat % 2 ^ 15 * 2 ^ 13 + 0x38000000 := by
  rw [dRebias, biasUp_toNat, dWide_toNat]
  omega

theorem dMag_of_daz (h : Float16Bits) (daz : dIsDaz h = true) : dMag h = 0#32 := by rw [dMag, mux, if_pos daz]

theorem dMag_of_not_daz (h : Float16Bits) (not_daz : ¬dIsDaz h = true) : dMag h = dRebias h := by
  rw [dMag, mux, if_neg not_daz]

/-- Step 5: denormals-as-zero. -/
theorem dMag_toNat (h : Float16Bits) :
    (dMag h).toNat = if h.toNat / 2 ^ 10 % 2 ^ 5 = 0 then 0 else h.toNat % 2 ^ 15 * 2 ^ 13 + 0x38000000 := by
  by_cases daz : dIsDaz h = true
  · rw [dMag_of_daz h daz, if_pos ((dIsDaz_iff h).1 daz), BitVec.toNat_ofNat, Nat.zero_mod]
  · rw [dMag_of_not_daz h daz, if_neg (mt (dIsDaz_iff h).2 daz), dRebias_toNat]

/-- The magnitude leaves bit 31 to the sign. -/
theorem dMag_toNat_lt (h : Float16Bits) : (dMag h).toNat < 2 ^ 31 := by
  rw [dMag_toNat]
  split <;> omega

/-- Step 6: magnitude and sign have no bit in common, so their OR is their sum. -/
theorem fp16ToFp32_toNat (h : Float16Bits) :
    (fp16ToFp32 h).toNat = (dMag h).toNat + h.toNat / 2 ^ 15 * 2 ^ 31 := by
  have disjoint := Nat.two_pow_add_eq_or_of_lt (dMag_toNat_lt h) (h.toNat / 2 ^ 15)
  calc (fp16ToFp32 h).toNat = (dMag h).toNat ||| h.toNat / 2 ^ 15 * 2 ^ 31 := by
        rw [fp16ToFp32, BitVec.toNat_or, dSign32_toNat]
    _ = 2 ^ 31 * (h.toNat / 2 ^ 15) ||| (dMag h).toNat := by rw [Nat.or_comm, Nat.mul_comm]
    _ = (dMag h).toNat + h.toNat / 2 ^ 15 * 2 ^ 31 := by rw [← disjoint, Nat.add_comm, Nat.mul_comm]

/-- Every term of the sum is a multiple of `2 ^ 13`. -/
theorem fp16ToFp32_toNat_mod (h : Float16Bits) : (fp16ToFp32 h).toNat % 2 ^ 13 = 0 := by
  rw [fp16ToFp32_toNat, dMag_toNat]
  split <;> omega

/-! ### The statement -/

/-- Settles O8: the frame is `exec_eq_take`, the number is R74's step list read off the decoder's wires. -/
theorem decodeFollowsStepList : Obligations.DecodeFollowsStepList := by
  intro s h
  refine ⟨fp16ToFp32 h, exec_eq_take (.decode h) s, ?stepList, fp16ToFp32_toNat_mod h,
    ?plusZero, ?minusZero, ?smallestNormal, ?largestFinite, ?worked⟩
  case stepList => rw [fp16ToFp32_toNat, dMag_toNat]
  all_goals
    rintro rfl
    decide

end Sys2Proof.Machine
end

section
/-! SUPPORT. Proofs about `fp32_to_fp16_converter` (43_fp32_to_fp16_converter.md): the wires of the encoder as numbers, in the
order of R79's steps, then the statement O14. -/

namespace Sys2Proof.Machine

/-- The multiplexer (R8), read through a condition `p` that its select wire decides. -/
theorem mux_toNat {c : Bool} {p : Prop} [Decidable p] (selects : c = true ↔ p) (a b : U32) :
    (mux c a b).toNat = if p then a.toNat else b.toNat := by
  rw [mux, apply_ite BitVec.toNat]
  exact if_congr selects rfl rfl

/-! ### The wires of the encoder -/

/-- `e_is_ftz` in terms of the exponent field left in place (R63), as step 6 of R79 compares it. -/
theorem eIsFtz_iff_inPlace (i : Float32Bits) : eIsFtz i = true ↔ i.toNat / 2 ^ 23 % 2 ^ 8 * 2 ^ 23 < 0x38800000 := by
  rw [eIsFtz_iff]
  omega

/-- Step 3: the non-sign field narrowed. -/
theorem eNarrow_toNat (i : Float32Bits) : (eNarrow i).toNat = i.toNat % 2 ^ 31 / 2 ^ 13 := by
  rw [eNarrow, resampleDown_toNat, eNonsign_toNat]
  omega

/-- Step 5: where the flush does not act, `E8` is at least 113 and the subtraction does not borrow. -/
theorem eRebias_toNat_of_not_flushed (i : Float32Bits) (not_flushed : ¬i.toNat / 2 ^ 23 % 2 ^ 8 * 2 ^ 23 < 0x38800000) :
    (eRebias i).toNat = i.toNat % 2 ^ 31 / 2 ^ 13 - 0x1C000 := by
  have no_borrow : 0x1C000 ≤ (eNarrow i).toNat := by
    rw [eNarrow_toNat]
    omega
  rw [eRebias, biasDown_toNat_of_le _ no_borrow, eNarrow_toNat]

/-- Step 6: flush-to-zero. -/
theorem eR1_toNat (i : Float32Bits) :
    (eR1 i).toNat = if i.toNat / 2 ^ 23 % 2 ^ 8 * 2 ^ 23 < 0x38800000 then 0 else i.toNat % 2 ^ 31 / 2 ^ 13 - 0x1C000 := by
  rw [eR1, mux_toNat (eIsFtz_iff_inPlace i)]
  exact if_ctx_congr Iff.rfl (fun _ => rfl) (eRebias_toNat_of_not_flushed i)

/-- Step 7: clamp-to-max over the flush. -/
theorem eR2_toNat (threshold : U32) (i : Float32Bits) :
    (eR2 threshold i).toNat =
      if threshold.toNat < i.toNat / 2 ^ 23 % 2 ^ 8 * 2 ^ 23 then 0x7BFF else (eR1 i).toNat :=
  mux_toNat (eIsClamp_iff threshold i) _ _

/-- Step 8: denormals-as-zero over the clamp. -/
theorem eR3_toNat (threshold : U32) (i : Float32Bits) :
    (eR3 threshold i).toNat = if i.toNat / 2 ^ 23 % 2 ^ 8 = 0 then 0 else (eR2 threshold i).toNat :=
  mux_toNat (eIsDaz_iff i) _ _

/-- Steps 9 and 10: the sign joined by OR, which an overflowing magnitude can share bit 15 with, and the low 16 bits taken. -/
theorem fp32ToFp16_toNat (threshold : U32) (i : Float32Bits) :
    (fp32ToFp16 threshold i).toNat = ((eR3 threshold i).toNat ||| i.toNat / 2 ^ 31 * 2 ^ 15) % 2 ^ 16 := by
  rw [fp32ToFp16, low16, BitVec.toNat_setWidth, BitVec.toNat_or, eSign16_toNat]

/-! ### The statement -/

/-- Settles O14: the frame is `exec_eq_take`, the number is R79's step list read off the encoder's wires from the last
assignment to the first. -/
theorem encodeFollowsStepList : Obligations.EncodeFollowsStepList := by
  intro s i
  refine ⟨fp32ToFp16 s.clampThreshold i, exec_eq_take (.encode i) s, ?stepList,
    ?zeroed, ?flushed, ?smallestNormal, ?truncated, ?largestFinite, ?worked⟩
  case stepList => rw [fp32ToFp16_toNat, eR3_toNat, eR2_toNat, eR1_toNat]
  all_goals
    intro asWritten
    rintro rfl
    rw [asWritten]
    decide

end Sys2Proof.Machine
end

section
/-! SUPPORT. Proofs about the byte-level operations (44_byte_interface.md): where the byte lanes put the fields of a word, which
of them the decoder's sign and magnitude read and what the encoder's lanes carry, then the statements O24 and O25. -/

namespace Sys2Proof.Machine
open Sys2Proof.ClosedForm

/-! ### The byte lanes -/

theorem halfSign_wordOf (bytes : Wire16) : halfSign (wordOf bytes) = bytes.byte1.extractLsb' 7 1 := by
  apply BitVec.eq_of_toNat_eq
  rw [halfSign, toNat_field, toNat_field, wordOf_toNat]
  omega

theorem halfExp_wordOf (bytes : Wire16) : halfExp (wordOf bytes) = bytes.byte1.extractLsb' 2 5 := by
  apply BitVec.eq_of_toNat_eq
  rw [halfExp, toNat_field, toNat_field, wordOf_toNat]
  omega

theorem bytesOf_byte0_toNat (h : Float16Bits) : (bytesOf h).byte0.toNat = h.toNat % 2 ^ 8 := by
  rw [bytesOf, toNat_field, Nat.pow_zero, Nat.div_one]

/-- The high lane holds all that the low lane leaves: a word has no more than two bytes (R88). -/
theorem bytesOf_byte1_toNat (h : Float16Bits) : (bytesOf h).byte1.toNat = h.toNat / 2 ^ 8 := by
  rw [bytesOf, toNat_field]
  omega

/-! ### The decoder's sign and magnitude -/

/-- The magnitude stays below bit 31, so the operand's sign arrives there unchanged (R74). -/
theorem singleSign_fp16ToFp32 (h : Float16Bits) : singleSign (fp16ToFp32 h) = halfSign h := by
  apply BitVec.eq_of_toNat_eq
  rw [singleSign, halfSign, toNat_field, toNat_field, fp16ToFp32_toNat]
  have := dMag_toNat_lt h
  omega

theorem fp16ToFp32_magnitude_toNat (h : Float16Bits) : ((fp16ToFp32 h).extractLsb' 0 31).toNat = (dMag h).toNat := by
  rw [toNat_field, fp16ToFp32_toNat]
  have := dMag_toNat_lt h
  omega

/-- Past the zero test the bias keeps the magnitude above zero, so `e5` alone decides. -/
theorem fp16ToFp32_magnitude_eq_zero_iff (h : Float16Bits) :
    (fp16ToFp32 h).extractLsb' 0 31 = 0#31 ↔ halfExp h = 0#5 := by
  rw [← BitVec.toNat_inj, ← BitVec.toNat_inj, fp16ToFp32_magnitude_toNat, dMag_toNat, halfExp, toNat_field,
    BitVec.toNat_ofNat, BitVec.toNat_ofNat]
  split <;> omega

/-! ### The encoder's signed zero -/

/-- Denormals-as-zero is the last override: where it acts, the sign alone is left, whatever the parameter (R81). -/
theorem fp32ToFp16_of_daz (threshold : U32) (i : Float32Bits) (daz : eIsDaz i = true) :
    fp32ToFp16 threshold i = low16 (eSign16 i) := by
  rw [fp32ToFp16, eR3, mux, if_pos daz, BitVec.zero_or]

/-! ### The statements -/

/-- Settles O24: the frame is `exec_eq_take`, the word is `wordOf_toNat`, and its sign and zero test are the decoder's, read
through the byte lanes. -/
theorem decodeBytesIsDecodeOfLittleEndianWord : Obligations.DecodeBytesIsDecodeOfLittleEndianWord := by
  intro s bytes
  refine ⟨wordOf bytes, fp16ToFp32 (wordOf bytes), wordOf_toNat bytes, (gives_iff_resultOf s _ _).2 rfl,
    exec_eq_take (.decodeBytes bytes) s, ?sign, ?zeroTest, ?signInHighByte, ?subnormal, ?worked⟩
  case sign => rw [singleSign_fp16ToFp32, halfSign_wordOf]
  case zeroTest => rw [fp16ToFp32_magnitude_eq_zero_iff, halfExp_wordOf]
  all_goals
    rintro rfl
    decide

/-- Settles O25: the frame is `exec_eq_take`, the two bytes are those of `bytesOf`, and the negative zero is zeroed under every
value of the parameter. -/
theorem encodeBytesEmitsLowByteFirst : Obligations.EncodeBytesEmitsLowByteFirst := by
  intro s value
  refine ⟨fp32ToFp16 s.clampThreshold value, bytesOf (fp32ToFp16 s.clampThreshold value),
    (gives_iff_resultOf s _ _).2 rfl, exec_eq_take (.encodeBytes value) s, bytesOf_byte0_toNat _, bytesOf_byte1_toNat _,
    ?minusZero, ?worked⟩
  case minusZero =>
    rintro rfl
    have daz : eIsDaz 0x80000000#32 = true := by decide
    rw [fp32ToFp16_of_daz _ _ daz]
    decide
  case worked =>
    intro asWritten
    rintro rfl
    rw [asWritten]
    decide

end Sys2Proof.Machine
end

section
/-! SUPPORT. Proofs about the properties of 45_properties.md on zeros and on the two zeroing overrides: the decoder's mask
tests read on the 16-bit word, the encoder where the clamp does not act, then the statements O30, O31 and O29. -/

namespace Sys2Proof.Machine

/-! ### The decoder's masks on the 16-bit word -/

theorem zext32_and (h mask : U16) : zext32 (h &&& mask) = zext32 h &&& zext32 mask := BitVec.setWidth_and

/-- The zero test is the mask test on the operand itself (R94). -/
theorem dIsDaz_of_mask_zero (h : Float16Bits) (exponent_zero : h &&& 0x7C00#16 = 0#16) : dIsDaz h = true := by
  have widened : dExpbits h = zext32 (h &&& 0x7C00#16) := (zext32_and h 0x7C00#16).symm
  rw [dIsDaz, beq_iff_eq, widened, exponent_zero]
  rfl

/-- Masking the sign and widening commute. -/
theorem dSign32_eq_mask (h : Float16Bits) : dSign32 h = (h &&& 0x8000#16).setWidth 32 <<< 16 := by
  have widened : dSign h = zext32 (h &&& 0x8000#16) := (zext32_and h 0x8000#16).symm
  rw [dSign32, widened, zext32]

/-- Denormals-as-zero leaves the sign alone (R74). -/
theorem fp16ToFp32_of_daz (h : Float16Bits) (daz : dIsDaz h = true) : fp16ToFp32 h = dSign32 h := by
  rw [fp16ToFp32, dMag_of_daz h daz, BitVec.zero_or]

/-! ### The encoder where the clamp does not act -/

theorem eIsClamp_eq_false_of_le (threshold : U32) (i : Float32Bits) (le : (eExpbits i).toNat ≤ threshold.toNat) :
    eIsClamp threshold i = false :=
  decide_eq_false (Nat.not_lt.2 le)

/-- Where the clamp does not act the parameter has no effect (R80). -/
theorem fp32ToFp16_of_not_clamped (threshold : U32) (i : Float32Bits) (not_clamped : eIsClamp threshold i = false) :
    fp32ToFp16 threshold i = low16 (mux (eIsDaz i) 0#32 (eR1 i) ||| eSign16 i) := by
  have unclamped : eR2 threshold i = eR1 i := by
    rw [eR2, mux, not_clamped]
    exact if_neg Bool.false_ne_true
  rw [fp32ToFp16, eR3, unclamped]

/-- Flush-to-zero with no clamp over it leaves the sign alone, whether or not denormals-as-zero acts as well (R81). -/
theorem fp32ToFp16_of_flushed (threshold : U32) (i : Float32Bits) (flushed : eIsFtz i = true)
    (not_clamped : eIsClamp threshold i = false) : fp32ToFp16 threshold i = low16 (eSign16 i) := by
  have zeroed : eR1 i = 0#32 := by rw [eR1, mux, if_pos flushed]
  rw [fp32ToFp16_of_not_clamped threshold i not_clamped, zeroed, mux, ite_self, BitVec.zero_or]

/-- Both configurations of R80 start to clamp far above the flush threshold. -/
theorem State.le_clampThreshold_of_configuration (s : State) (configured : s.AsWritten ∨ s.EffectiveClamp) :
    0x47000000 ≤ s.clampThreshold.toNat := by
  obtain as_written | ⟨lower, -⟩ := configured
  · rw [as_written]
    decide
  · exact lower

/-! ### The statements -/

/-- Settles O30: `DECODE` is the sign alone where the zero test holds, and both are masks of the operand. -/
theorem denormalsAsZeroOnDecode : Obligations.DenormalsAsZeroOnDecode := by
  intro s h exponent_zero
  rw [gives_iff_resultOf, resultOf, fp16ToFp32_of_daz h (dIsDaz_of_mask_zero h exponent_zero), dSign32_eq_mask]

/-- Settles O31: neither configuration clamps an exponent field below `0x47000000`. So every operand below the flush threshold
keeps its sign alone, and at the boundary and at 0.001 the result does not depend on the parameter. -/
theorem flushToZeroOnEncode : Obligations.FlushToZeroOnEncode := by
  intro s configured
  have threshold_high := s.le_clampThreshold_of_configuration configured
  have not_clamped (i : Float32Bits) (low : (eExpbits i).toNat ≤ 0x47000000) : eIsClamp s.clampThreshold i = false :=
    eIsClamp_eq_false_of_le _ i (low.trans threshold_high)
  have flush (i : Float32Bits) (below : (eExpbits i).toNat < 0x38800000) :
      Gives s (.encode i) (.half (low16 (eSign16 i))) := by
    have flushed : eIsFtz i = true := decide_eq_true below
    rw [gives_iff_resultOf, resultOf, fp32ToFp16_of_flushed _ i flushed (not_clamped i (by omega))]
  refine ⟨flush, flush 0x387FFFFF#32 (by decide), ?smallestNormal, ?thousandth⟩
  all_goals
    rw [gives_iff_resultOf, resultOf, fp32ToFp16_of_not_clamped _ _ (not_clamped _ (by decide))]
    decide

/-- Settles O29: both zeros are operands of denormals-as-zero, in `DECODE` by O30 and in `ENCODE` under every value of the
parameter. -/
theorem zeroPreservation : Obligations.ZeroPreservation := by
  intro s
  have encode_daz (i : Float32Bits) (daz : eIsDaz i = true) : Gives s (.encode i) (.half (low16 (eSign16 i))) := by
    rw [gives_iff_resultOf, resultOf, fp32ToFp16_of_daz _ i daz]
  exact ⟨denormalsAsZeroOnDecode s 0x0000#16 (by decide), denormalsAsZeroOnDecode s 0x8000#16 (by decide),
    encode_daz 0x00000000#32 (by decide), encode_daz 0x80000000#32 (by decide)⟩

end Sys2Proof.Machine
end

section
/-! SUPPORT. Proofs about exceptions (60_exceptions.md): `exec` answers its one next state, so it answers no other outcome. -/

namespace Sys2Proof.Machine

theorem exec_ne_fault (i : Instr) (s : State) (reason : Fault) : exec i s ≠ .fault reason := by
  rw [exec_eq_take]
  exact nofun

theorem exec_ne_refused (i : Instr) (s : State) (reason : Refusal) : exec i s ≠ .refused reason := by
  rw [exec_eq_take]
  exact nofun

/-- Settles O37: an operation gives its unit's function of the operand, and the next state it answers is neither a fault nor a
refusal. -/
theorem everyOperationAnswersAValue : Obligations.EveryOperationAnswersAValue := by
  intro i s
  have gives_result : Gives s i (resultOf s.clampThreshold i) := (gives_iff_resultOf s i _).2 rfl
  exact ⟨⟨_, gives_result⟩, exec_ne_fault i s, exec_ne_refused i s⟩

end Sys2Proof.Machine
end

section
/-! SUPPORT. Proofs about presentations (30_encoding.md sections 1, 4 and 5): the encoder and the decoder of presentations undo
each other, then the statements O43, O44 and O45. -/

namespace Sys2Proof

/-- The lines that an operation is presented on carry its operand back (R47, R53). -/
theorem instrOn_encodeInstr (i : Instr) : instrOn (encodeInstr i).path (encodeInstr i).bits = i := by
  cases i with
  | resampleUp x | resampleDown x | biasUp x | biasDown x | decode x | encode x | encodeBytes x =>
    rw [encodeInstr, instrOn, BitVec.ofNat_toNat, BitVec.setWidth_eq]
  | decodeBytes bytes =>
    have low : BitVec.ofNat 8 (bytes.byte0.toNat + 256 * bytes.byte1.toNat) = bytes.byte0 := by bv_omega
    have high : BitVec.ofNat 8 ((bytes.byte0.toNat + 256 * bytes.byte1.toNat) / 256) = bytes.byte1 := by bv_omega
    rw [encodeInstr, instrOn, low, high]

theorem encodeInstr_wellFormed (i : Instr) : (encodeInstr i).wellFormed = true := by
  cases i with
  | resampleUp x => exact (Laws.EncodedOperandFits.resampleUp x).1
  | resampleDown x => exact (Laws.EncodedOperandFits.resampleDown x).1
  | biasUp x => exact (Laws.EncodedOperandFits.biasUp x).1
  | biasDown x => exact (Laws.EncodedOperandFits.biasDown x).1
  | decode h => exact (Laws.EncodedOperandFits.decode h).1
  | encode i => exact (Laws.EncodedOperandFits.encode i).1
  | decodeBytes bytes => exact (Laws.EncodedOperandFits.decodeBytes bytes).1
  | encodeBytes value => exact (Laws.EncodedOperandFits.encodeBytes value).1

/-- Levels that the lines of the port can carry lose nothing in the operand (R55). -/
theorem encodeInstr_instrOn (path : Path) (bits : Nat) (fits : bits < 2 ^ path.operandWidth) :
    encodeInstr (instrOn path bits) = ⟨path, path.operandWidth, bits⟩ := by
  cases path with
  | resamplerUp | resamplerDown | adjusterUp | adjusterDown | halfWord | singleWord | singleToByteLanes =>
    rw [Path.operandWidth] at fits
    rw [instrOn, encodeInstr, BitVec.toNat_ofNat, Nat.mod_eq_of_lt fits, Path.operandWidth]
  | halfByteLanes =>
    rw [Path.operandWidth] at fits
    have lanes : bits % 2 ^ 8 + 256 * (bits / 256 % 2 ^ 8) = bits := by omega
    rw [instrOn, encodeInstr, BitVec.toNat_ofNat, BitVec.toNat_ofNat, lanes, Path.operandWidth]

theorem encodeInstr_instrOn_of_wellFormed (st : Stimulus) (well_formed : st.wellFormed = true) :
    encodeInstr (instrOn st.path st.bits) = st := by
  obtain ⟨path, width, bits⟩ := st
  obtain ⟨width_eq, fits⟩ := (wellFormed_iff _).1 well_formed
  dsimp only at width_eq fits
  subst width_eq
  exact encodeInstr_instrOn path bits fits

theorem decodeStimulus_encodeInstr (i : Instr) : decodeStimulus (encodeInstr i) = .ok i :=
  (decodeStimulus_ok_iff _ i).2 ⟨encodeInstr_wellFormed i, instrOn_encodeInstr i⟩

theorem exists_decodeStimulus_ok_iff (st : Stimulus) : (∃ i, decodeStimulus st = .ok i) ↔ st.wellFormed = true := by
  constructor
  · rintro ⟨i, selects⟩
    exact ((decodeStimulus_ok_iff st i).1 selects).1
  · intro well_formed
    exact ⟨_, decodeStimulus_of_wellFormed st well_formed⟩

/-! ### The statements -/

/-- Settles O43: encoding is an inverse of decoding on the well-formed presentations, which are all that decode. -/
theorem presentationsAndOperationsCorrespond : Obligations.PresentationsAndOperationsCorrespond := by
  intro st i
  constructor
  · intro selects
    obtain ⟨well_formed, rfl⟩ := (decodeStimulus_ok_iff st i).1 selects
    exact (encodeInstr_instrOn_of_wellFormed st well_formed).symm
  · rintro rfl
    exact decodeStimulus_encodeInstr i

/-- Settles O44: the width that the statement names for each path is the path's operand width. -/
theorem everyFittingPatternIsLegal : Obligations.EveryFittingPatternIsLegal := by
  rintro ⟨path, width, bits⟩
  rw [exists_decodeStimulus_ok_iff, wellFormed_iff, and_comm]
  cases path <;> rfl

/-- Settles O45: each word is the one that encodes its operation. -/
theorem writtenOutWordsDecode : Obligations.WrittenOutWordsDecode :=
  ⟨decodeStimulus_encodeInstr (.encode 0x41200000#32), decodeStimulus_encodeInstr (.decode 0xBE00#16),
    decodeStimulus_encodeInstr (.decodeBytes ⟨0x66#8, 0x2A#8⟩), decodeStimulus_encodeInstr (.resampleUp 0x4900#32)⟩

end Sys2Proof
end

section
/-! SUPPORT. The words of the two formats built from their fields (30_encoding.md rules R45 and R46), the masks and signs of the
statements in this form, and the closed forms case by case. Later proofs compare words field by field. -/

namespace Sys2Proof.Machine
open Sys2Proof.ClosedForm

/-! ### Words and their fields -/

/-- A Float16Bits from its fields (R46). -/
def halfOf (s : BitVec 1) (e : BitVec 5) (m : BitVec 10) : Float16Bits := s ++ e ++ m

/-- A Float32Bits from its fields (R45), the 13 mantissa bits that narrowing discards being zero. -/
def singleOf (s : BitVec 1) (e : BitVec 8) (m : BitVec 10) : Float32Bits := s ++ e ++ m ++ 0#13

theorem toNat_append_eq_add {m n : Nat} (x : BitVec m) (y : BitVec n) :
    (x ++ y).toNat = x.toNat * 2 ^ n + y.toNat := by
  rw [BitVec.toNat_append, ← Nat.shiftLeft_add_eq_or_of_lt y.isLt, Nat.shiftLeft_eq]

theorem halfOf_toNat (s : BitVec 1) (e : BitVec 5) (m : BitVec 10) :
    (halfOf s e m).toNat = (s.toNat * 2 ^ 5 + e.toNat) * 2 ^ 10 + m.toNat := by
  rw [halfOf, toNat_append_eq_add, toNat_append_eq_add]

theorem singleOf_toNat (s : BitVec 1) (e : BitVec 8) (m : BitVec 10) :
    (singleOf s e m).toNat = ((s.toNat * 2 ^ 8 + e.toNat) * 2 ^ 10 + m.toNat) * 2 ^ 13 := by
  rw [singleOf, toNat_append_eq_add, toNat_append_eq_add, toNat_append_eq_add, BitVec.toNat_ofNat, Nat.zero_mod,
    Nat.add_zero]

theorem halfSign_toNat (h : Float16Bits) : (halfSign h).toNat = h.toNat / 2 ^ 15 % 2 ^ 1 := toNat_field h 15 1
theorem halfExp_toNat (h : Float16Bits) : (halfExp h).toNat = h.toNat / 2 ^ 10 % 2 ^ 5 := toNat_field h 10 5
theorem halfMant_toNat (h : Float16Bits) : (halfMant h).toNat = h.toNat / 2 ^ 0 % 2 ^ 10 := toNat_field h 0 10
theorem singleSign_toNat (i : Float32Bits) : (singleSign i).toNat = i.toNat / 2 ^ 31 % 2 ^ 1 := toNat_field i 31 1
theorem singleExp_toNat (i : Float32Bits) : (singleExp i).toNat = i.toNat / 2 ^ 23 % 2 ^ 8 := toNat_field i 23 8
theorem singleMant_toNat (i : Float32Bits) : (singleMant i).toNat = i.toNat / 2 ^ 0 % 2 ^ 23 := toNat_field i 0 23

@[simp] theorem halfSign_halfOf (s : BitVec 1) (e : BitVec 5) (m : BitVec 10) : halfSign (halfOf s e m) = s := by
  apply BitVec.eq_of_toNat_eq
  rw [halfSign_toNat, halfOf_toNat]
  omega

@[simp] theorem halfExp_halfOf (s : BitVec 1) (e : BitVec 5) (m : BitVec 10) : halfExp (halfOf s e m) = e := by
  apply BitVec.eq_of_toNat_eq
  rw [halfExp_toNat, halfOf_toNat]
  omega

@[simp] theorem halfMant_halfOf (s : BitVec 1) (e : BitVec 5) (m : BitVec 10) : halfMant (halfOf s e m) = m := by
  apply BitVec.eq_of_toNat_eq
  rw [halfMant_toNat, halfOf_toNat]
  omega

@[simp] theorem singleSign_singleOf (s : BitVec 1) (e : BitVec 8) (m : BitVec 10) : singleSign (singleOf s e m) = s := by
  apply BitVec.eq_of_toNat_eq
  rw [singleSign_toNat, singleOf_toNat]
  omega

@[simp] theorem singleExp_singleOf (s : BitVec 1) (e : BitVec 8) (m : BitVec 10) : singleExp (singleOf s e m) = e := by
  apply BitVec.eq_of_toNat_eq
  rw [singleExp_toNat, singleOf_toNat]
  omega

@[simp] theorem keptMant_singleOf (s : BitVec 1) (e : BitVec 8) (m : BitVec 10) : keptMant (singleOf s e m) = m := by
  apply BitVec.eq_of_toNat_eq
  rw [keptMant_toNat, singleOf_toNat]
  omega

/-- A half-precision word is its fields. -/
@[simp] theorem halfOf_fields (h : Float16Bits) : halfOf (halfSign h) (halfExp h) (halfMant h) = h := by
  apply BitVec.eq_of_toNat_eq
  rw [halfOf_toNat, halfSign_toNat, halfExp_toNat, halfMant_toNat]
  omega

theorem single_and_truncationMask_toNat (i : Float32Bits) :
    (i &&& 0xFFFFE000#32).toNat = i.toNat / 2 ^ 13 % 2 ^ 19 * 2 ^ 13 := by
  rw [BitVec.toNat_and]
  exact and_mask_eq_field i.toNat 19 13

/-- A single-precision word is its fields up to the 13 discarded bits. -/
theorem singleOf_fields (i : Float32Bits) : singleOf (singleSign i) (singleExp i) (keptMant i) = i &&& 0xFFFFE000#32 := by
  apply BitVec.eq_of_toNat_eq
  rw [single_and_truncationMask_toNat, singleOf_toNat, singleSign_toNat, singleExp_toNat, keptMant_toNat]
  omega

theorem singleOf_fields_of_low_zero (i : Float32Bits) (low_zero : i.extractLsb' 0 13 = 0#13) :
    singleOf (singleSign i) (singleExp i) (keptMant i) = i := by
  have low : i.toNat / 2 ^ 0 % 2 ^ 13 = 0 := by rw [← toNat_field, low_zero, BitVec.toNat_ofNat, Nat.zero_mod]
  apply BitVec.eq_of_toNat_eq
  rw [singleOf_toNat, singleSign_toNat, singleExp_toNat, keptMant_toNat]
  omega

theorem halfOf_inj {s s' : BitVec 1} {e e' : BitVec 5} {m m' : BitVec 10} :
    halfOf s e m = halfOf s' e' m' ↔ s = s' ∧ e = e' ∧ m = m' := by
  constructor
  · intro eq
    exact ⟨by simpa using congrArg halfSign eq, by simpa using congrArg halfExp eq, by simpa using congrArg halfMant eq⟩
  · rintro ⟨rfl, rfl, rfl⟩
    rfl

theorem singleOf_inj {s s' : BitVec 1} {e e' : BitVec 8} {m m' : BitVec 10} :
    singleOf s e m = singleOf s' e' m' ↔ s = s' ∧ e = e' ∧ m = m' := by
  constructor
  · intro eq
    exact ⟨by simpa using congrArg singleSign eq, by simpa using congrArg singleExp eq,
      by simpa using congrArg keptMant eq⟩
  · rintro ⟨rfl, rfl, rfl⟩
    rfl

theorem half_eq_halfOf_iff (h : Float16Bits) (s : BitVec 1) (e : BitVec 5) (m : BitVec 10) :
    h = halfOf s e m ↔ halfSign h = s ∧ halfExp h = e ∧ halfMant h = m := by
  rw [← halfOf_inj, halfOf_fields]

/-! ### Masks, signs and constants as fields -/

theorem halfOf_or (s s' : BitVec 1) (e e' : BitVec 5) (m m' : BitVec 10) :
    halfOf s e m ||| halfOf s' e' m' = halfOf (s ||| s') (e ||| e') (m ||| m') := by
  rw [halfOf, halfOf, halfOf, BitVec.or_append, BitVec.or_append]

theorem singleOf_or (s s' : BitVec 1) (e e' : BitVec 8) (m m' : BitVec 10) :
    singleOf s e m ||| singleOf s' e' m' = singleOf (s ||| s') (e ||| e') (m ||| m') := by
  rw [singleOf, singleOf, singleOf, BitVec.or_append, BitVec.or_append, BitVec.or_append, BitVec.or_self]

theorem halfOf_sign (s : BitVec 1) : s ++ 0#15 = halfOf s 0#5 0#10 := by
  apply BitVec.eq_of_toNat_eq
  rw [halfOf_toNat, toNat_append_eq_add, BitVec.toNat_ofNat, BitVec.toNat_ofNat, BitVec.toNat_ofNat]
  omega

/-- `CLAMP_VALUE` is the largest finite magnitude. -/
theorem halfOf_clamp (s : BitVec 1) : s ++ 0x7BFF#15 = halfOf s 30#5 0x3FF#10 := by
  apply BitVec.eq_of_toNat_eq
  rw [halfOf_toNat, toNat_append_eq_add, BitVec.toNat_ofNat, BitVec.toNat_ofNat, BitVec.toNat_ofNat]
  omega

theorem singleOf_sign (s : BitVec 1) : s ++ 0#31 = singleOf s 0#8 0#10 := by
  apply BitVec.eq_of_toNat_eq
  rw [singleOf_toNat, toNat_append_eq_add, BitVec.toNat_ofNat, BitVec.toNat_ofNat, BitVec.toNat_ofNat]
  omega

theorem half_and_signMask (h : Float16Bits) : h &&& 0x8000#16 = halfOf (halfSign h) 0#5 0#10 := by
  have masked : (h &&& 0x8000#16).toNat = h.toNat / 2 ^ 15 % 2 ^ 1 * 2 ^ 15 := by
    rw [BitVec.toNat_and]
    exact and_mask_eq_field h.toNat 1 15
  apply BitVec.eq_of_toNat_eq
  rw [masked, halfOf_toNat, halfSign_toNat, BitVec.toNat_ofNat, BitVec.toNat_ofNat]
  omega

theorem single_and_signMask (i : Float32Bits) : i &&& 0x80000000#32 = singleOf (singleSign i) 0#8 0#10 := by
  have masked : (i &&& 0x80000000#32).toNat = i.toNat / 2 ^ 31 % 2 ^ 1 * 2 ^ 31 := by
    rw [BitVec.toNat_and]
    exact and_mask_eq_field i.toNat 1 31
  apply BitVec.eq_of_toNat_eq
  rw [masked, singleOf_toNat, singleSign_toNat, BitVec.toNat_ofNat, BitVec.toNat_ofNat]
  omega

theorem halfOf_xor_signMask (s : BitVec 1) (e : BitVec 5) (m : BitVec 10) :
    halfOf s e m ^^^ 0x8000#16 = halfOf (s ^^^ 1#1) e m := by
  have mask : 0x8000#16 = halfOf 1#1 0#5 0#10 := by decide
  rw [mask, halfOf, halfOf, halfOf, BitVec.xor_append, BitVec.xor_append, BitVec.xor_zero, BitVec.xor_zero]

theorem singleOf_xor_signMask (s : BitVec 1) (e : BitVec 8) (m : BitVec 10) :
    singleOf s e m ^^^ 0x80000000#32 = singleOf (s ^^^ 1#1) e m := by
  have mask : 0x80000000#32 = singleOf 1#1 0#8 0#10 := by decide
  rw [mask, singleOf, singleOf, singleOf, BitVec.xor_append, BitVec.xor_append, BitVec.xor_append, BitVec.xor_zero,
    BitVec.xor_zero, BitVec.xor_zero]

theorem half_xor_signMask (h : Float16Bits) : h ^^^ 0x8000#16 = halfOf (halfSign h ^^^ 1#1) (halfExp h) (halfMant h) := by
  rw [← halfOf_xor_signMask, halfOf_fields]

theorem singleSign_xor_signMask (i : Float32Bits) : singleSign (i ^^^ 0x80000000#32) = singleSign i ^^^ 1#1 := by
  have mask : (0x80000000#32).extractLsb' 31 1 = 1#1 := by decide
  rw [singleSign, BitVec.extractLsb'_xor, mask, singleSign]

theorem singleExp_xor_signMask (i : Float32Bits) : singleExp (i ^^^ 0x80000000#32) = singleExp i := by
  have mask : (0x80000000#32).extractLsb' 23 8 = 0#8 := by decide
  rw [singleExp, BitVec.extractLsb'_xor, mask, BitVec.xor_zero, singleExp]

theorem keptMant_xor_signMask (i : Float32Bits) : keptMant (i ^^^ 0x80000000#32) = keptMant i := by
  have mask : ((0x80000000#32).extractLsb' 0 23).extractLsb' 13 10 = 0#10 := by decide
  rw [keptMant, singleMant, BitVec.extractLsb'_xor, BitVec.extractLsb'_xor, mask, BitVec.xor_zero, keptMant, singleMant]

/-! ### The decoder's closed form -/

/-- `e5 + 112` (R75). -/
def widenedExp (e : BitVec 5) : BitVec 8 := e.setWidth 8 + 112#8

theorem widenedExp_toNat (e : BitVec 5) : (widenedExp e).toNat = e.toNat + 112 := by
  rw [widenedExp, BitVec.toNat_add, BitVec.toNat_setWidth, BitVec.toNat_ofNat]
  omega

theorem toNat_pos_of_ne_zero {e : BitVec 5} (ne : e ≠ 0#5) : 0 < e.toNat :=
  Nat.pos_of_ne_zero fun zero => ne (BitVec.eq_of_toNat_eq zero)

theorem decode_of_exp_zero (h : Float16Bits) (zero : halfExp h = 0#5) :
    ClosedForm.decode h = singleOf (halfSign h) 0#8 0#10 := by
  rw [ClosedForm.decode, if_pos zero, singleOf_sign]

theorem decode_of_exp_ne_zero (h : Float16Bits) (ne : halfExp h ≠ 0#5) :
    ClosedForm.decode h = singleOf (halfSign h) (widenedExp (halfExp h)) (halfMant h) := by
  rw [ClosedForm.decode, if_neg ne, singleOf, widenedExp]

/-! ### The encoder's closed forms -/

/-- `d[5]`, which the sign is joined with (R84). -/
def spill (i : Float32Bits) : BitVec 1 := (rebiased i).extractLsb' 5 1

/-- `d[4:0]` (R82, R83). -/
def narrowedExp (i : Float32Bits) : BitVec 5 := (rebiased i).extractLsb' 0 5

theorem rebiased_toNat (i : Float32Bits) (le : 112 ≤ (singleExp i).toNat) :
    (rebiased i).toNat = (singleExp i).toNat - 112 := by
  rw [rebiased, BitVec.toNat_sub, BitVec.toNat_ofNat]
  omega

theorem spill_toNat (i : Float32Bits) (le : 112 ≤ (singleExp i).toNat) :
    (spill i).toNat = ((singleExp i).toNat - 112) / 2 ^ 5 % 2 ^ 1 := by
  rw [spill, toNat_field, rebiased_toNat i le]

theorem narrowedExp_toNat (i : Float32Bits) (le : 112 ≤ (singleExp i).toNat) :
    (narrowedExp i).toNat = ((singleExp i).toNat - 112) % 2 ^ 5 := by
  rw [narrowedExp, toNat_field, rebiased_toNat i le, Nat.pow_zero, Nat.div_one]

theorem spill_eq_zero (i : Float32Bits) (le : 112 ≤ (singleExp i).toNat)
    (even : ((singleExp i).toNat - 112) / 2 ^ 5 % 2 ^ 1 = 0) : spill i = 0#1 :=
  BitVec.eq_of_toNat_eq ((spill_toNat i le).trans even)

theorem spill_eq_one (i : Float32Bits) (le : 112 ≤ (singleExp i).toNat)
    (odd : ((singleExp i).toNat - 112) / 2 ^ 5 % 2 ^ 1 = 1) : spill i = 1#1 :=
  BitVec.eq_of_toNat_eq ((spill_toNat i le).trans odd)

theorem encodeAsWritten_of_lt (i : Float32Bits) (lt : (singleExp i).toNat < 113) :
    encodeAsWritten i = halfOf (singleSign i) 0#5 0#10 := by
  rw [encodeAsWritten, if_pos lt, halfOf_sign]

theorem encodeAsWritten_of_ge (i : Float32Bits) (ge : 113 ≤ (singleExp i).toNat) :
    encodeAsWritten i = halfOf (singleSign i ||| spill i) (narrowedExp i) (keptMant i) := by
  rw [encodeAsWritten, if_neg (Nat.not_lt.2 ge), halfOf, spill, narrowedExp]

/-- Where `d[5]` is zero the sign comes through (R84). -/
theorem encodeAsWritten_of_no_spill (i : Float32Bits) (ge : 113 ≤ (singleExp i).toNat)
    (even : ((singleExp i).toNat - 112) / 2 ^ 5 % 2 ^ 1 = 0) :
    encodeAsWritten i = halfOf (singleSign i) (narrowedExp i) (keptMant i) := by
  rw [encodeAsWritten_of_ge i ge, spill_eq_zero i (by omega) even, BitVec.or_zero]

theorem encodeAsWritten_of_normal (i : Float32Bits) (ge : 113 ≤ (singleExp i).toNat) (le : (singleExp i).toNat ≤ 143) :
    encodeAsWritten i = halfOf (singleSign i) (narrowedExp i) (keptMant i) :=
  encodeAsWritten_of_no_spill i ge (by omega)

/-- Where `d[5]` is one it overwrites the sign (R84). -/
theorem encodeAsWritten_of_spill (i : Float32Bits) (ge : 113 ≤ (singleExp i).toNat)
    (odd : ((singleExp i).toNat - 112) / 2 ^ 5 % 2 ^ 1 = 1) :
    encodeAsWritten i = halfOf 1#1 (narrowedExp i) (keptMant i) := by
  have overwritten : ∀ s : BitVec 1, s ||| 1#1 = 1#1 := by decide
  rw [encodeAsWritten_of_ge i ge, spill_eq_one i (by omega) odd, overwritten]

theorem encodeEffectiveClamp_of_ge (i : Float32Bits) (ge : 143 ≤ (singleExp i).toNat) :
    encodeEffectiveClamp i = halfOf (singleSign i) 30#5 0x3FF#10 := by
  rw [encodeEffectiveClamp, if_neg (by omega), if_pos ge, halfOf_clamp]

/-- Below the clamp the two configurations agree. -/
theorem encodeEffectiveClamp_of_lt (i : Float32Bits) (lt : (singleExp i).toNat < 143) :
    encodeEffectiveClamp i = encodeAsWritten i := by
  by_cases flushed : (singleExp i).toNat < 113
  · rw [encodeEffectiveClamp, if_pos flushed, encodeAsWritten, if_pos flushed]
  · rw [encodeAsWritten_of_normal i (Nat.le_of_not_lt flushed) (by omega), encodeEffectiveClamp, if_neg flushed,
      if_neg (by omega), halfOf, narrowedExp]

end Sys2Proof.Machine
end

section
/-! SUPPORT. The converters are the spec's closed forms: R75 for `DECODE` (42_fp16_to_fp32_converter.md); for `ENCODE` under any
value of the parameter the four cases of R81, and from them R82 and R83 (43_fp32_to_fp16_converter.md). Then the statements O9,
O15, O16, O17 and O18. -/

namespace Sys2Proof.Machine
open Sys2Proof.ClosedForm

theorem gives_resultOf (s : State) (op : Instr) : Gives s op (resultOf s.clampThreshold op) :=
  (gives_iff_resultOf s op _).2 rfl

/-! ### `DECODE` -/

theorem fp16ToFp32_eq_decode (h : Float16Bits) : fp16ToFp32 h = ClosedForm.decode h := by
  apply BitVec.eq_of_toNat_eq
  rw [fp16ToFp32_toNat, dMag_toNat, ← halfExp_toNat]
  by_cases zero : halfExp h = 0#5
  · have exp_zero : (halfExp h).toNat = 0 := by rw [zero, BitVec.toNat_ofNat, Nat.zero_mod]
    rw [if_pos exp_zero, decode_of_exp_zero h zero, singleOf_toNat, halfSign_toNat, BitVec.toNat_ofNat,
      BitVec.toNat_ofNat]
    omega
  · have exp_pos := toNat_pos_of_ne_zero zero
    rw [if_neg (by omega), decode_of_exp_ne_zero h zero, singleOf_toNat, halfSign_toNat, widenedExp_toNat,
      halfExp_toNat, halfMant_toNat]
    omega

theorem gives_decode (s : State) (h : Float16Bits) : Gives s (.decode h) (.single (ClosedForm.decode h)) := by
  rw [gives_iff_resultOf, resultOf, fp16ToFp32_eq_decode]

theorem gives_decode_iff (s : State) (h : Float16Bits) (f : Float32Bits) :
    Gives s (.decode h) (.single f) ↔ f = ClosedForm.decode h := by
  rw [gives_iff_resultOf, resultOf, fp16ToFp32_eq_decode, Result.single.injEq]

/-! ### `ENCODE` under any value of the parameter -/

theorem eIsClamp_iff_exp (threshold : U32) (i : Float32Bits) :
    eIsClamp threshold i = true ↔ threshold.toNat < (singleExp i).toNat * 2 ^ 23 := by
  rw [eIsClamp_iff, singleExp_toNat]

theorem eIsClamp_eq_false_iff_exp (threshold : U32) (i : Float32Bits) :
    eIsClamp threshold i = false ↔ (singleExp i).toNat * 2 ^ 23 ≤ threshold.toNat := by
  rw [← Bool.not_eq_true, eIsClamp_iff_exp, Nat.not_lt]

theorem low16_or (v w : U32) : low16 (v ||| w) = low16 v ||| low16 w := BitVec.setWidth_or

theorem low16_eSign16 (i : Float32Bits) : low16 (eSign16 i) = halfOf (singleSign i) 0#5 0#10 := by
  apply BitVec.eq_of_toNat_eq
  rw [low16, BitVec.toNat_setWidth, eSign16_toNat, halfOf_toNat, singleSign_toNat, BitVec.toNat_ofNat,
    BitVec.toNat_ofNat]
  omega

/-- Step 5 where the flush does not act: `d[5]` lands on the sign's place (R84). -/
theorem low16_eRebias (i : Float32Bits) (ge : 113 ≤ (singleExp i).toNat) :
    low16 (eRebias i) = halfOf (spill i) (narrowedExp i) (keptMant i) := by
  have exp_eq := singleExp_toNat i
  apply BitVec.eq_of_toNat_eq
  rw [low16, BitVec.toNat_setWidth, eRebias_toNat_of_not_flushed i (by omega), halfOf_toNat, spill_toNat i (by omega),
    narrowedExp_toNat i (by omega), keptMant_toNat]
  omega

/-- Denormals-as-zero, whatever the parameter (R81). -/
theorem fp32ToFp16_of_exp_zero (threshold : U32) (i : Float32Bits) (zero : (singleExp i).toNat = 0) :
    fp32ToFp16 threshold i = halfOf (singleSign i) 0#5 0#10 := by
  have daz : eIsDaz i = true := (eIsDaz_iff i).2 ((singleExp_toNat i).symm.trans zero)
  rw [fp32ToFp16_of_daz threshold i daz, low16_eSign16]

/-- Clamp over flush (R81): an exponent field above the parameter is not zero. -/
theorem fp32ToFp16_of_clamped (threshold : U32) (i : Float32Bits)
    (above : threshold.toNat < (singleExp i).toNat * 2 ^ 23) :
    fp32ToFp16 threshold i = halfOf (singleSign i) 30#5 0x3FF#10 := by
  have not_daz : ¬eIsDaz i = true := by
    rw [eIsDaz_iff, ← singleExp_toNat]
    omega
  have clamped : eR3 threshold i = 0x7BFF#32 := by
    rw [eR3, mux, if_neg not_daz, eR2, mux, if_pos ((eIsClamp_iff_exp threshold i).2 above)]
  have magnitude : low16 0x7BFF#32 = halfOf 0#1 30#5 0x3FF#10 := by decide
  simp only [fp32ToFp16, clamped, low16_or, magnitude, low16_eSign16, halfOf_or, BitVec.or_zero, BitVec.zero_or]

/-- Flush-to-zero where the clamp does not act (R81). -/
theorem fp32ToFp16_of_exp_lt (threshold : U32) (i : Float32Bits)
    (not_above : (singleExp i).toNat * 2 ^ 23 ≤ threshold.toNat) (lt : (singleExp i).toNat < 113) :
    fp32ToFp16 threshold i = halfOf (singleSign i) 0#5 0#10 := by
  rw [singleExp_toNat] at lt
  rw [fp32ToFp16_of_flushed threshold i ((eIsFtz_iff i).2 lt) ((eIsClamp_eq_false_iff_exp threshold i).2 not_above),
    low16_eSign16]

/-- Where no override acts the closed form is R82's, with R84's sign. -/
theorem fp32ToFp16_of_exp_ge (threshold : U32) (i : Float32Bits)
    (not_above : (singleExp i).toNat * 2 ^ 23 ≤ threshold.toNat) (ge : 113 ≤ (singleExp i).toNat) :
    fp32ToFp16 threshold i = halfOf (singleSign i ||| spill i) (narrowedExp i) (keptMant i) := by
  have not_daz : ¬eIsDaz i = true := by
    rw [eIsDaz_iff, ← singleExp_toNat]
    omega
  have not_flushed : ¬eIsFtz i = true := by
    rw [eIsFtz_iff, ← singleExp_toNat]
    omega
  have not_clamped := (eIsClamp_eq_false_iff_exp threshold i).2 not_above
  rw [fp32ToFp16_of_not_clamped threshold i not_clamped, mux, if_neg not_daz, eR1, mux, if_neg not_flushed, low16_or,
    low16_eRebias i ge, low16_eSign16, halfOf_or, BitVec.or_zero, BitVec.or_zero, BitVec.or_comm]

/-- The parameter acts through the clamp's select wire alone (R80). -/
theorem fp32ToFp16_congr (threshold threshold' : U32) (i : Float32Bits)
    (same : eIsClamp threshold i = eIsClamp threshold' i) : fp32ToFp16 threshold i = fp32ToFp16 threshold' i := by
  rw [fp32ToFp16, eR3, eR2, same, ← eR2, ← eR3, ← fp32ToFp16]

/-! ### `ENCODE` in the two configurations -/

/-- No exponent field in place is above `0x7F800000` (R80). -/
theorem eIsClamp_of_threshold_high (threshold : U32) (i : Float32Bits) (high : 0x7F800000 ≤ threshold.toNat) :
    eIsClamp threshold i = false := by
  rw [eIsClamp_eq_false_iff_exp]
  omega

/-- R82 with R84: the clamp never acts. -/
theorem fp32ToFp16_eq_encodeAsWritten (threshold : U32) (i : Float32Bits) (high : 0x7F800000 ≤ threshold.toNat) :
    fp32ToFp16 threshold i = encodeAsWritten i := by
  have not_above := (eIsClamp_eq_false_iff_exp threshold i).1 (eIsClamp_of_threshold_high threshold i high)
  by_cases flushed : (singleExp i).toNat < 113
  · rw [fp32ToFp16_of_exp_lt threshold i not_above flushed, encodeAsWritten_of_lt i flushed]
  · have ge := Nat.le_of_not_lt flushed
    rw [fp32ToFp16_of_exp_ge threshold i not_above ge, encodeAsWritten_of_ge i ge]

/-- R83: from `0x47000000` to `0x477FFFFF` the exponent fields above the parameter are those of 143 and more. -/
theorem fp32ToFp16_eq_encodeEffectiveClamp (threshold : U32) (i : Float32Bits) (lower : 0x47000000 ≤ threshold.toNat)
    (upper : threshold.toNat ≤ 0x477FFFFF) : fp32ToFp16 threshold i = encodeEffectiveClamp i := by
  by_cases clamped : 143 ≤ (singleExp i).toNat
  · rw [fp32ToFp16_of_clamped threshold i (by omega), encodeEffectiveClamp_of_ge i clamped]
  · have below := Nat.lt_of_not_le clamped
    have unclamped : eIsClamp threshold i = eIsClamp 0x7F800000#32 i := by
      rw [eIsClamp_of_threshold_high 0x7F800000#32 i (by decide), eIsClamp_eq_false_iff_exp]
      omega
    rw [fp32ToFp16_congr _ _ i unclamped, fp32ToFp16_eq_encodeAsWritten _ i (by decide),
      encodeEffectiveClamp_of_lt i below]

theorem State.fp32ToFp16_of_asWritten {s : State} (as_written : s.AsWritten) (i : Float32Bits) :
    fp32ToFp16 s.clampThreshold i = encodeAsWritten i := by
  rw [as_written]
  exact fp32ToFp16_eq_encodeAsWritten _ i (by decide)

theorem State.fp32ToFp16_of_effectiveClamp {s : State} (effective : s.EffectiveClamp) (i : Float32Bits) :
    fp32ToFp16 s.clampThreshold i = encodeEffectiveClamp i :=
  fp32ToFp16_eq_encodeEffectiveClamp _ i effective.1 effective.2

theorem gives_encode (s : State) (i : Float32Bits) : Gives s (.encode i) (.half (fp32ToFp16 s.clampThreshold i)) :=
  gives_resultOf s (.encode i)

theorem gives_encode_iff (s : State) (i : Float32Bits) (h : Float16Bits) :
    Gives s (.encode i) (.half h) ↔ h = fp32ToFp16 s.clampThreshold i := by
  rw [gives_iff_resultOf, resultOf, Result.half.injEq]

/-! ### The statements -/

/-- Settles O9. -/
theorem decodeClosedForm : Obligations.DecodeClosedForm := gives_decode

/-- Settles O15. -/
theorem encodeClosedFormAsWritten : Obligations.EncodeClosedFormAsWritten := by
  intro s i high
  rw [gives_encode_iff, fp32ToFp16_eq_encodeAsWritten _ i high]

/-- Settles O16. -/
theorem encodeClosedFormEffectiveClamp : Obligations.EncodeClosedFormEffectiveClamp := by
  intro s i effective
  rw [gives_encode_iff, State.fp32ToFp16_of_effectiveClamp effective]

/-- Settles O17: the hypothesis at the operand's own exponent field is that both parameters clamp it or neither does. -/
theorem parameterActsThroughClampedExponents : Obligations.ParameterActsThroughClampedExponents := by
  intro s t i h same_fields gives
  have same : eIsClamp s.clampThreshold i = eIsClamp t.clampThreshold i := by
    rw [Bool.eq_iff_iff, eIsClamp_iff_exp, eIsClamp_iff_exp]
    exact same_fields (singleExp i)
  rw [gives_encode_iff] at gives ⊢
  rw [gives, fp32ToFp16_congr _ _ i same]

/-- Settles O18: the cases of R81; the highest exponent field that the flush reaches is 112, in place `0x38000000`. -/
theorem encodeOverridePriority : Obligations.EncodeOverridePriority := by
  intro s
  refine ⟨fun i zero => ?daz, fun i above => ?clamp, fun i not_above lt => ?flush, ?meet, fun below => ?witness⟩
  case daz =>
    rw [gives_encode_iff, halfOf_sign, fp32ToFp16_of_exp_zero _ i (by rw [zero, BitVec.toNat_ofNat, Nat.zero_mod])]
  case clamp => rw [gives_encode_iff, halfOf_clamp, fp32ToFp16_of_clamped _ i above]
  case flush => rw [gives_encode_iff, halfOf_sign, fp32ToFp16_of_exp_lt _ i not_above lt]
  case meet =>
    rintro ⟨i, above, lt⟩
    omega
  case witness =>
    refine ⟨singleOf 0#1 112#8 0#10, ?_, ?_⟩
    · rw [singleExp_singleOf]
      exact below
    · rw [singleExp_singleOf]
      decide

end Sys2Proof.Machine
end

section
/-! SUPPORT. Proofs about the two sub-units (40_mantissa_resampler.md, 41_exponent_bias_adjuster.md): the results of the two paths
of the bias adjuster field by field, what the paths undo of each other, then the statements O3, O4, O5, O6 and O7. -/

namespace Sys2Proof.Machine
open Sys2Proof.ClosedForm

/-! ### The up path of the bias adjuster -/

/-- On the decoder's range the addition does not wrap (R70). -/
theorem biasUp_toNat_of_le (x : U32) (le : x.toNat ≤ 0x0FFFE000) : (biasUp x).toNat = x.toNat + 0x38000000 := by
  rw [biasUp_toNat]
  omega

/-- The constant has no bit below the exponent field. -/
theorem biasUp_low_field (x : U32) : (biasUp x).extractLsb' 0 23 = x.extractLsb' 0 23 := by
  apply BitVec.eq_of_toNat_eq
  rw [toNat_field, toNat_field, biasUp_toNat]
  omega

theorem biasUp_exponent_field_of_le (x : U32) (le : x.toNat ≤ 0x0FFFE000) :
    (singleExp (biasUp x)).toNat = (singleExp x).toNat + 112 := by
  rw [singleExp_toNat, singleExp_toNat, biasUp_toNat_of_le x le]
  omega

/-! ### The down path of the bias adjuster, where it does not borrow -/

theorem biasDown_low_field_of_le (x : U32) (no_borrow : 0x1C000 ≤ x.toNat) :
    (biasDown x).extractLsb' 0 10 = x.extractLsb' 0 10 := by
  apply BitVec.eq_of_toNat_eq
  rw [toNat_field, toNat_field, biasDown_toNat_of_le x no_borrow]
  omega

theorem biasDown_exponent_field_of_le (x : U32) (no_borrow : 0x1C000 ≤ x.toNat) (le : x.toNat ≤ 0x3FFFF) :
    ((biasDown x).extractLsb' 10 8).toNat = (x.extractLsb' 10 8).toNat - 112 := by
  rw [toNat_field, toNat_field, biasDown_toNat_of_le x no_borrow]
  omega

theorem biasDown_toNat_lt_iff (x : U32) (no_borrow : 0x1C000 ≤ x.toNat) (le : x.toNat ≤ 0x3FFFF) :
    (biasDown x).toNat < 2 ^ 15 ↔ (x.extractLsb' 10 8).toNat < 144 := by
  rw [toNat_field, biasDown_toNat_of_le x no_borrow]
  omega

/-! ### What the paths undo -/

theorem resampleUp_resampleDown (x : U32) : resampleUp (resampleDown x) = x &&& 0xFFFFE000#32 := by
  apply BitVec.eq_of_toNat_eq
  rw [resampleUp_toNat, resampleDown_toNat, single_and_truncationMask_toNat]
  omega

theorem resampleDown_resampleUp (x : U32) (lt : x.toNat < 2 ^ 19) : resampleDown (resampleUp x) = x := by
  apply BitVec.eq_of_toNat_eq
  rw [resampleDown_toNat, resampleUp_toNat]
  omega

/-- The two constants are the bias difference before and after narrowing (R16), so the down paths undo the up paths. -/
theorem biasDown_resampleDown_biasUp_resampleUp (x : U32) (le : x.toNat ≤ 0x7FFF) :
    biasDown (resampleDown (biasUp (resampleUp x))) = x := by
  have widened := resampleUp_toNat_of_le x le
  have narrowed : (resampleDown (biasUp (resampleUp x))).toNat = x.toNat + 0x1C000 := by
    rw [resampleDown_toNat, biasUp_toNat_of_le _ (by omega), widened]
    omega
  apply BitVec.eq_of_toNat_eq
  rw [biasDown_toNat_of_le _ (by omega), narrowed, Nat.add_sub_cancel]

/-! ### The statements -/

/-- Settles O3. -/
theorem resamplerNarrowsByTruncation : Obligations.ResamplerNarrowsByTruncation := by
  intro s x
  refine ⟨fun _ => ⟨_, gives_resultOf s (.resampleDown x), ?_⟩, fun lt => ⟨_, gives_resultOf s (.resampleUp x), ?_⟩⟩
  · rw [gives_iff_resultOf, resultOf, resampleUp_resampleDown]
  · rw [gives_iff_resultOf, resultOf, resampleDown_resampleUp x lt]

/-- Settles O7. -/
theorem subUnitPathsInverseOnDecoderRange : Obligations.SubUnitPathsInverseOnDecoderRange := by
  intro s x le
  refine ⟨_, _, _, gives_resultOf s (.resampleUp x), gives_resultOf s (.biasUp _), gives_resultOf s (.resampleDown _), ?_⟩
  rw [gives_iff_resultOf, resultOf, biasDown_resampleDown_biasUp_resampleUp x le]

/-- Settles O4: the frame is `exec_eq_take`, the clauses are the field lemmas of the up path. -/
theorem biasUpAddsBiasDifference : Obligations.BiasUpAddsBiasDifference := by
  intro s x
  refine ⟨biasUp x, exec_eq_take (.biasUp x) s, biasUp_toNat x, fun le => ?decoderRange, ?worked⟩
  case decoderRange =>
    have exact_sum := biasUp_toNat_of_le x le
    exact ⟨by omega, biasUp_low_field x, biasUp_exponent_field_of_le x le⟩
  case worked =>
    rintro rfl
    decide

/-- Settles O5: the frame is `exec_eq_take`, the clauses are the field lemmas of the down path. -/
theorem biasDownWithoutBorrow : Obligations.BiasDownWithoutBorrow := by
  intro s x no_borrow
  have exact_difference := biasDown_toNat_of_le x no_borrow
  refine ⟨biasDown x, exec_eq_take (.biasDown x) s, exact_difference, biasDown_low_field_of_le x no_borrow,
    fun le => ⟨by omega, biasDown_exponent_field_of_le x no_borrow le, biasDown_toNat_lt_iff x no_borrow le⟩, ?worked⟩
  case worked =>
    rintro rfl
    decide

/-- Settles O6: the frame alone. -/
theorem biasDownWithBorrowCompletes : Obligations.BiasDownWithBorrowCompletes :=
  fun s x _ => ⟨biasDown x, exec_eq_take (.biasDown x) s⟩

end Sys2Proof.Machine
end

section
/-! SUPPORT. Proofs about `DECODE` (42_fp16_to_fp32_converter.md): its closed form read on each field and undone by `ENCODE`, then
the statements O10, O11, O12, O13 and O33. -/

namespace Sys2Proof.Machine
open Sys2Proof.ClosedForm

/-! ### The fields of a decoded word -/

theorem widenedExp_inj {e e' : BitVec 5} (eq : widenedExp e = widenedExp e') : e = e' := by
  have toNat_eq : e.toNat + 112 = e'.toNat + 112 := by rw [← widenedExp_toNat, eq, widenedExp_toNat]
  exact BitVec.eq_of_toNat_eq (Nat.add_right_cancel toNat_eq)

/-- `d[4:0]` of the exponent field `e5 + 112` is `e5`. -/
theorem narrowedExp_of_widened (i : Float32Bits) (e : BitVec 5) (widened : singleExp i = widenedExp e) :
    narrowedExp i = e := by
  have exp := widenedExp_toNat e
  rw [← widened] at exp
  apply BitVec.eq_of_toNat_eq
  rw [narrowedExp_toNat i (by omega)]
  omega

/-- `DECODE` of a word built from its fields. -/
theorem decode_halfOf (s : BitVec 1) (e : BitVec 5) (m : BitVec 10) :
    ClosedForm.decode (halfOf s e m) = if e = 0#5 then singleOf s 0#8 0#10 else singleOf s (widenedExp e) m := by
  split
  next zero => rw [decode_of_exp_zero _ ((halfExp_halfOf s e m).trans zero), halfSign_halfOf]
  next ne => rw [decode_of_exp_ne_zero _ (by rwa [halfExp_halfOf]), halfSign_halfOf, halfExp_halfOf, halfMant_halfOf]

theorem decode_halfOf_of_ne_zero (s : BitVec 1) {e : BitVec 5} (m : BitVec 10) (ne : e ≠ 0#5) :
    ClosedForm.decode (halfOf s e m) = singleOf s (widenedExp e) m := by
  rw [decode_halfOf, if_neg ne]

theorem decode_halfOf_zero (s : BitVec 1) : ClosedForm.decode (halfOf s 0#5 0#10) = singleOf s 0#8 0#10 := by
  rw [decode_halfOf, if_pos rfl]

/-- From `E8 = 113` to 143 widening undoes narrowing (R98). -/
theorem widenedExp_narrowedExp (i : Float32Bits) (ge : 113 ≤ (singleExp i).toNat) (le : (singleExp i).toNat ≤ 143) :
    widenedExp (narrowedExp i) = singleExp i := by
  apply BitVec.eq_of_toNat_eq
  rw [widenedExp_toNat, narrowedExp_toNat i (by omega)]
  omega

theorem narrowedExp_ne_zero (i : Float32Bits) (ge : 113 ≤ (singleExp i).toNat) (le : (singleExp i).toNat ≤ 143) :
    narrowedExp i ≠ 0#5 := by
  rw [Ne, ← BitVec.toNat_inj, narrowedExp_toNat i (by omega), BitVec.toNat_ofNat]
  omega

/-- R98 in the as-written configuration, up to `E8 = 143`. -/
theorem decode_encodeAsWritten_of_normal (i : Float32Bits) (ge : 113 ≤ (singleExp i).toNat)
    (le : (singleExp i).toNat ≤ 143) : ClosedForm.decode (encodeAsWritten i) = i &&& 0xFFFFE000#32 := by
  rw [encodeAsWritten_of_normal i ge le, decode_halfOf_of_ne_zero _ _ (narrowedExp_ne_zero i ge le),
    widenedExp_narrowedExp i ge le, singleOf_fields]

/-- R98 below the flush threshold. -/
theorem decode_encodeAsWritten_of_lt (i : Float32Bits) (lt : (singleExp i).toNat < 113) :
    ClosedForm.decode (encodeAsWritten i) = i &&& 0x80000000#32 := by
  rw [encodeAsWritten_of_lt i lt, decode_halfOf_zero, single_and_signMask]

/-- Every word that `DECODE` gives has its low 13 bits zero (R99). -/
theorem singleOf_low_zero (s : BitVec 1) (e : BitVec 8) (m : BitVec 10) : (singleOf s e m).extractLsb' 0 13 = 0#13 :=
  BitVec.extractLsb'_append_eq_right

theorem singleMant_singleOf_zero (s : BitVec 1) (e : BitVec 8) : singleMant (singleOf s e 0#10) = 0#23 := by
  apply BitVec.eq_of_toNat_eq
  rw [singleMant_toNat, singleOf_toNat, BitVec.toNat_ofNat, BitVec.toNat_ofNat]
  omega

/-- Past the zero test the bias keeps the exponent field above zero. -/
theorem singleExp_decode_eq_zero_iff (h : Float16Bits) : singleExp (ClosedForm.decode h) = 0#8 ↔ halfExp h = 0#5 := by
  by_cases zero : halfExp h = 0#5
  · rw [decode_of_exp_zero h zero, singleExp_singleOf]
    exact iff_of_true rfl zero
  · refine iff_of_false ?_ zero
    rw [decode_of_exp_ne_zero h zero, singleExp_singleOf, ← BitVec.toNat_inj, widenedExp_toNat, BitVec.toNat_ofNat]
    omega

/-- R77: the signs always count, the exponent and the mantissa where the operands are not zeroed. -/
theorem decode_eq_decode_iff (h k : Float16Bits) :
    ClosedForm.decode h = ClosedForm.decode k ↔
      h = k ∨ (halfExp h = 0#5 ∧ halfExp k = 0#5 ∧ halfSign h = halfSign k) := by
  constructor
  · intro eq
    have zero_iff : halfExp h = 0#5 ↔ halfExp k = 0#5 := by
      rw [← singleExp_decode_eq_zero_iff, eq, singleExp_decode_eq_zero_iff]
    by_cases zero : halfExp h = 0#5
    · rw [decode_of_exp_zero h zero, decode_of_exp_zero k (zero_iff.1 zero), singleOf_inj] at eq
      exact .inr ⟨zero, zero_iff.1 zero, eq.1⟩
    · rw [decode_of_exp_ne_zero h zero, decode_of_exp_ne_zero k (mt zero_iff.2 zero), singleOf_inj] at eq
      obtain ⟨sign, exp, mant⟩ := eq
      left
      rw [← halfOf_fields k, half_eq_halfOf_iff]
      exact ⟨sign, widenedExp_inj exp, mant⟩
  · rintro (rfl | ⟨h_zero, k_zero, sign⟩)
    · rfl
    · rw [decode_of_exp_zero h h_zero, decode_of_exp_zero k k_zero, sign]

/-- R99: what every decoded word is. -/
theorem decode_range (h : Float16Bits) :
    (ClosedForm.decode h).extractLsb' 0 13 = 0#13 ∧
      ((singleExp (ClosedForm.decode h) = 0#8 ∧ singleMant (ClosedForm.decode h) = 0#23) ∨
        (113 ≤ (singleExp (ClosedForm.decode h)).toNat ∧ (singleExp (ClosedForm.decode h)).toNat ≤ 143)) := by
  by_cases zero : halfExp h = 0#5
  · rw [decode_of_exp_zero h zero]
    exact ⟨singleOf_low_zero _ _ _, .inl ⟨singleExp_singleOf _ _ _, singleMant_singleOf_zero _ _⟩⟩
  · have exp_pos := toNat_pos_of_ne_zero zero
    rw [decode_of_exp_ne_zero h zero, singleExp_singleOf, widenedExp_toNat]
    exact ⟨singleOf_low_zero _ _ _, .inr ⟨by omega, by omega⟩⟩

/-- A word with these fields is decoded from the word that it is encoded to. -/
theorem decode_encodeAsWritten_of_range (f : Float32Bits) (low_zero : f.extractLsb' 0 13 = 0#13)
    (range : (singleExp f = 0#8 ∧ singleMant f = 0#23) ∨ (113 ≤ (singleExp f).toNat ∧ (singleExp f).toNat ≤ 143)) :
    ClosedForm.decode (encodeAsWritten f) = f := by
  have fields := singleOf_fields_of_low_zero f low_zero
  obtain ⟨exp_zero, mant_zero⟩ | ⟨ge, le⟩ := range
  · have kept_zero : keptMant f = 0#10 := by rw [keptMant, mant_zero, BitVec.extractLsb'_zero]
    have lt : (singleExp f).toNat < 113 := by
      rw [exp_zero]
      decide
    rw [decode_encodeAsWritten_of_lt f lt, single_and_signMask]
    rwa [exp_zero, kept_zero] at fields
  · rw [decode_encodeAsWritten_of_normal f ge le, ← singleOf_fields, fields]

/-- R97 (a). -/
theorem decode_xor_signMask (h : Float16Bits) :
    ClosedForm.decode (h ^^^ 0x8000#16) = ClosedForm.decode h ^^^ 0x80000000#32 := by
  rw [half_xor_signMask, decode_halfOf]
  by_cases zero : halfExp h = 0#5
  · rw [if_pos zero, decode_of_exp_zero h zero, singleOf_xor_signMask]
  · rw [if_neg zero, decode_of_exp_ne_zero h zero, singleOf_xor_signMask]

/-! ### R76's formula and the sub-units -/

theorem sign_shifted (s : BitVec 1) : s.setWidth 32 <<< 31 = singleOf s 0#8 0#10 := by
  apply BitVec.eq_of_toNat_eq
  rw [BitVec.toNat_shiftLeft, Nat.shiftLeft_eq, BitVec.toNat_setWidth, singleOf_toNat, BitVec.toNat_ofNat,
    BitVec.toNat_ofNat]
  omega

theorem mantissa_shifted (m : BitVec 10) : m.setWidth 32 <<< 13 = singleOf 0#1 0#8 m := by
  apply BitVec.eq_of_toNat_eq
  rw [BitVec.toNat_shiftLeft, Nat.shiftLeft_eq, BitVec.toNat_setWidth, singleOf_toNat, BitVec.toNat_ofNat,
    BitVec.toNat_ofNat]
  omega

theorem singleOf_143_eq_or (s : BitVec 1) (m : BitVec 10) :
    singleOf s 143#8 m = (s.setWidth 32 <<< 31) ||| 0x47800000#32 ||| (m.setWidth 32 <<< 13) := by
  have exponent : 0x47800000#32 = singleOf 0#1 143#8 0#10 := by decide
  simp only [sign_shifted, mantissa_shifted, exponent, singleOf_or, BitVec.or_zero, BitVec.zero_or]

/-- The decoder's copy of the two sub-units works on the non-sign field (R20). -/
theorem biasUp_resampleUp_nonsign (h : Float16Bits) :
    biasUp (resampleUp ((h &&& 0x7FFF#16).setWidth 32)) = dRebias h := by
  have nonsign : (h &&& 0x7FFF#16).setWidth 32 = dNonsign h := zext32_and h 0x7FFF#16
  rw [nonsign, ← dWide, ← dRebias]

theorem dMag_eq_ite (h : Float16Bits) : dMag h = if h &&& 0x7C00#16 = 0#16 then 0#32 else dRebias h := by
  have mask_iff : h &&& 0x7C00#16 = 0#16 ↔ dIsDaz h = true := by
    have masked : (h &&& 0x7C00#16).toNat = h.toNat / 2 ^ 10 % 2 ^ 5 * 2 ^ 10 := by
      rw [BitVec.toNat_and]
      exact and_mask_eq_field h.toNat 5 10
    rw [dIsDaz_iff, ← BitVec.toNat_inj, masked, BitVec.toNat_ofNat]
    omega
  rw [dMag, mux]
  exact if_congr mask_iff.symm rfl rfl

theorem dSign32_eq_append (h : Float16Bits) : dSign32 h = halfSign h ++ 0#31 := by
  apply BitVec.eq_of_toNat_eq
  rw [dSign32_toNat, toNat_append_eq_add, halfSign_toNat, BitVec.toNat_ofNat]
  omega

/-! ### The statements -/

/-- Settles O10: `e5 = 31` goes through the closed form like any other `e5` that is not zero, to the exponent field 143. -/
theorem decodeOfInfinityAndNanPatterns : Obligations.DecodeOfInfinityAndNanPatterns := by
  intro s h exp
  have ne : halfExp h ≠ 0#5 := by
    rw [exp]
    decide
  have widened : widenedExp 31#5 = 143#8 := by decide
  have closed : ClosedForm.decode h = singleOf (halfSign h) 143#8 (halfMant h) := by
    rw [decode_of_exp_ne_zero h ne, exp, widened]
  refine ⟨ClosedForm.decode h, gives_decode s h, ?formula, ?exponent, ?infinity, ?nan⟩
  case formula => rw [closed, singleOf_143_eq_or]
  case exponent => rw [closed, singleExp_singleOf]
  all_goals
    rintro rfl
    decide

/-- Settles O11. -/
theorem decodeIdentifiesOnlyZeroedPatterns : Obligations.DecodeIdentifiesOnlyZeroedPatterns :=
  fun s h k => ⟨_, _, gives_decode s h, gives_decode s k, decode_eq_decode_iff h k⟩

/-- Settles O12: the word that a word in the range is decoded from is the one that `ENCODE` gives for it. -/
theorem decodeRangeIsExact : Obligations.DecodeRangeIsExact := by
  intro s f
  constructor
  · rintro ⟨h, gives⟩
    rw [gives_decode_iff] at gives
    rw [gives]
    exact decode_range h
  · rintro ⟨low_zero, range⟩
    refine ⟨encodeAsWritten f, ?_⟩
    rw [gives_decode_iff, decode_encodeAsWritten_of_range f low_zero range]

/-- Settles O13: the two operations are the wires `d_wide` and `d_rebias` of the decoder. -/
theorem decodeIsComposedOfSubUnits : Obligations.DecodeIsComposedOfSubUnits := by
  intro s h
  refine ⟨_, _, gives_resultOf s (.resampleUp _), gives_resultOf s (.biasUp _), ?_⟩
  rw [biasUp_resampleUp_nonsign, ← dMag_eq_ite, ← dSign32_eq_append, ← fp16ToFp32]
  exact gives_resultOf s (.decode h)

/-- Settles O33. -/
theorem decodeSignIndependence : Obligations.DecodeSignIndependence := by
  intro s h
  refine ⟨_, gives_decode s h, ?_⟩
  rw [gives_decode_iff, decode_xor_signMask]

end Sys2Proof.Machine
end

section
/-! SUPPORT. Proofs about `ENCODE` in the two configurations (43_fp32_to_fp16_converter.md, 45_properties.md): its closed forms
read on each field, its images, the maximum magnitude and the sign, then the statements O19, O20, O21, O23, O32
and O34. -/

namespace Sys2Proof.Machine
open Sys2Proof.ClosedForm

/-! ### The fields of an encoded word -/

theorem halfExp_encodeAsWritten_toNat (i : Float32Bits) (ge : 113 ≤ (singleExp i).toNat) :
    (halfExp (encodeAsWritten i)).toNat = ((singleExp i).toNat - 112) % 2 ^ 5 := by
  rw [encodeAsWritten_of_ge i ge, halfExp_halfOf, narrowedExp_toNat i (by omega)]

theorem halfMant_encodeAsWritten (i : Float32Bits) (ge : 113 ≤ (singleExp i).toNat) :
    halfMant (encodeAsWritten i) = keptMant i := by
  rw [encodeAsWritten_of_ge i ge, halfMant_halfOf]

theorem halfSign_encodeAsWritten_of_no_spill (i : Float32Bits) (ge : 113 ≤ (singleExp i).toNat)
    (even : ((singleExp i).toNat - 112) / 2 ^ 5 % 2 ^ 1 = 0) : halfSign (encodeAsWritten i) = singleSign i := by
  rw [encodeAsWritten_of_no_spill i ge even, halfSign_halfOf]

theorem halfSign_encodeAsWritten_of_spill (i : Float32Bits) (ge : 113 ≤ (singleExp i).toNat)
    (odd : ((singleExp i).toNat - 112) / 2 ^ 5 % 2 ^ 1 = 1) : halfSign (encodeAsWritten i) = 1#1 := by
  rw [encodeAsWritten_of_spill i ge odd, halfSign_halfOf]

/-! ### The images -/

/-- With the exponent field `e + 176` the bit above `d[4:0]` is zero, so every pattern is reached (R86). -/
theorem encodeAsWritten_singleOf_176 (s : BitVec 1) (e : BitVec 5) (m : BitVec 10) :
    encodeAsWritten (singleOf s (e.setWidth 8 + 176#8) m) = halfOf s e m := by
  have exp : (singleExp (singleOf s (e.setWidth 8 + 176#8) m)).toNat = e.toNat + 176 := by
    rw [singleExp_singleOf, BitVec.toNat_add, BitVec.toNat_setWidth, BitVec.toNat_ofNat]
    omega
  have narrowed : narrowedExp (singleOf s (e.setWidth 8 + 176#8) m) = e := by
    apply BitVec.eq_of_toNat_eq
    rw [narrowedExp_toNat _ (by omega)]
    omega
  rw [encodeAsWritten_of_no_spill _ (by omega) (by omega), singleSign_singleOf, narrowed, keptMant_singleOf]

/-- Two operands from `E8 = 113` to 143 share a result exactly when they agree above bit 12 (R86). -/
theorem encodeAsWritten_eq_iff_of_normal (i j : Float32Bits) (i_ge : 113 ≤ (singleExp i).toNat)
    (i_le : (singleExp i).toNat ≤ 143) (j_ge : 113 ≤ (singleExp j).toNat) (j_le : (singleExp j).toNat ≤ 143) :
    encodeAsWritten i = encodeAsWritten j ↔ i.toNat / 2 ^ 13 = j.toNat / 2 ^ 13 := by
  have i_exp := singleExp_toNat i
  have j_exp := singleExp_toNat j
  rw [encodeAsWritten_of_normal i i_ge i_le, encodeAsWritten_of_normal j j_ge j_le, halfOf_inj, ← BitVec.toNat_inj,
    ← BitVec.toNat_inj, ← BitVec.toNat_inj, singleSign_toNat, singleSign_toNat, narrowedExp_toNat i (by omega),
    narrowedExp_toNat j (by omega), keptMant_toNat, keptMant_toNat]
  omega

/-- A result that is not zeroed keeps an exponent field from 1 to 30 (R86). -/
theorem encodeEffectiveClamp_range (i : Float32Bits) :
    halfExp (encodeEffectiveClamp i) ≠ 31#5 ∧
      (halfExp (encodeEffectiveClamp i) = 0#5 → halfMant (encodeEffectiveClamp i) = 0#10) := by
  by_cases clamped : 143 ≤ (singleExp i).toNat
  · rw [encodeEffectiveClamp_of_ge i clamped, halfExp_halfOf]
    exact ⟨by decide, fun zero => absurd zero (by decide)⟩
  · rw [encodeEffectiveClamp_of_lt i (Nat.lt_of_not_le clamped)]
    by_cases flushed : (singleExp i).toNat < 113
    · rw [encodeAsWritten_of_lt i flushed, halfExp_halfOf, halfMant_halfOf]
      exact ⟨by decide, fun _ => rfl⟩
    · have exp := halfExp_encodeAsWritten_toNat i (by omega)
      rw [Ne, ← BitVec.toNat_inj, ← BitVec.toNat_inj, exp, BitVec.toNat_ofNat, BitVec.toNat_ofNat]
      exact ⟨by omega, by omega⟩

/-! ### Infinity and NaN operands -/

/-- R85's formula in the as-written configuration. -/
theorem half_infinity_formula (s : BitVec 1) (m : BitVec 10) :
    (s ++ 0#15) ||| 0x3C00#16 ||| m.setWidth 16 = halfOf s 15#5 m := by
  have exponent : 0x3C00#16 = halfOf 0#1 15#5 0#10 := by decide
  have mantissa : m.setWidth 16 = halfOf 0#1 0#5 m := by
    apply BitVec.eq_of_toNat_eq
    rw [BitVec.toNat_setWidth, halfOf_toNat, BitVec.toNat_ofNat, BitVec.toNat_ofNat]
    omega
  rw [halfOf_sign, exponent, mantissa, halfOf_or, halfOf_or, BitVec.or_zero, BitVec.or_zero, BitVec.zero_or,
    BitVec.or_zero, BitVec.zero_or, BitVec.zero_or]

/-- R85's formula in the effective-clamp configuration. -/
theorem half_clamp_formula (s : BitVec 1) : (s ++ 0#15) ||| 0x7BFF#16 = halfOf s 30#5 0x3FF#10 := by
  have magnitude : 0x7BFF#16 = halfOf 0#1 30#5 0x3FF#10 := by decide
  rw [halfOf_sign, magnitude, halfOf_or, BitVec.or_zero, BitVec.zero_or, BitVec.zero_or]

theorem encodeAsWritten_of_exp_255 (i : Float32Bits) (exp : (singleExp i).toNat = 255) :
    encodeAsWritten i = halfOf (singleSign i) 15#5 (keptMant i) := by
  have narrowed : narrowedExp i = 15#5 := by
    apply BitVec.eq_of_toNat_eq
    rw [narrowedExp_toNat i (by omega), exp]
    rfl
  rw [encodeAsWritten_of_no_spill i (by omega) (by omega), narrowed]

/-- The half-precision infinity and NaN patterns have the exponent field 31. -/
theorem ne_infinity_nan_of_halfExp {h : Float16Bits} (exp : halfExp h ≠ 31#5) : h ≠ 0x7C00#16 ∧ h ≠ 0x7E00#16 := by
  constructor
  all_goals
    rintro rfl
    exact exp (by decide)

/-! ### The maximum finite magnitude -/

theorem eq_maxMagnitude_iff (h : Float16Bits) :
    h = 0x7BFF#16 ∨ h = 0xFBFF#16 ↔ halfExp h = 30#5 ∧ halfMant h = 0x3FF#10 := by
  have positive : 0x7BFF#16 = halfOf 0#1 30#5 0x3FF#10 := by decide
  have negative : 0xFBFF#16 = halfOf 1#1 30#5 0x3FF#10 := by decide
  have sign_cases : halfSign h = 0#1 ∨ halfSign h = 1#1 := BitVec.eq_zero_or_eq_one (halfSign h)
  rw [positive, negative, half_eq_halfOf_iff, half_eq_halfOf_iff, ← or_and_right, and_iff_right sign_cases]

/-- R96, as-written. -/
theorem encodeAsWritten_eq_maxMagnitude_iff (i : Float32Bits) :
    encodeAsWritten i = 0x7BFF#16 ∨ encodeAsWritten i = 0xFBFF#16 ↔
      113 ≤ (singleExp i).toNat ∧ ((singleExp i).toNat - 112) % 32 = 30 ∧ keptMant i = 0x3FF#10 := by
  rw [eq_maxMagnitude_iff]
  by_cases flushed : (singleExp i).toNat < 113
  · rw [encodeAsWritten_of_lt i flushed, halfExp_halfOf]
    exact iff_of_false (fun ⟨exp, _⟩ => absurd exp (by decide)) (fun ⟨ge, _⟩ => by omega)
  · have ge := Nat.le_of_not_lt flushed
    rw [halfMant_encodeAsWritten i ge, ← BitVec.toNat_inj, halfExp_encodeAsWritten_toNat i ge, BitVec.toNat_ofNat,
      and_iff_right ge]
    rfl

/-- R96, effective-clamp. -/
theorem encodeEffectiveClamp_eq_maxMagnitude_iff (i : Float32Bits) :
    encodeEffectiveClamp i = 0x7BFF#16 ∨ encodeEffectiveClamp i = 0xFBFF#16 ↔
      143 ≤ (singleExp i).toNat ∨ ((singleExp i).toNat = 142 ∧ keptMant i = 0x3FF#10) := by
  by_cases clamped : 143 ≤ (singleExp i).toNat
  · rw [eq_maxMagnitude_iff, encodeEffectiveClamp_of_ge i clamped, halfExp_halfOf, halfMant_halfOf]
    exact iff_of_true ⟨rfl, rfl⟩ (.inl clamped)
  · rw [encodeEffectiveClamp_of_lt i (Nat.lt_of_not_le clamped), encodeAsWritten_eq_maxMagnitude_iff,
      or_iff_right clamped, ← and_assoc]
    exact and_congr_left fun _ => by omega

/-- No exponent field in place is above the as-written literal (R80, D5). -/
theorem State.eIsClamp_of_asWritten {s : State} (as_written : s.AsWritten) (i : Float32Bits) :
    eIsClamp s.clampThreshold i = false := by
  rw [as_written]
  exact eIsClamp_of_threshold_high _ i (by decide)

/-! ### The operand with its sign inverted -/

theorem rebiased_xor_signMask (i : Float32Bits) : rebiased (i ^^^ 0x80000000#32) = rebiased i := by
  rw [rebiased, singleExp_xor_signMask, rebiased]

theorem narrowedExp_xor_signMask (i : Float32Bits) : narrowedExp (i ^^^ 0x80000000#32) = narrowedExp i := by
  rw [narrowedExp, rebiased_xor_signMask, narrowedExp]

/-- R97 (b), as-written: where `d[5]` is one it overwrites both signs. -/
theorem encodeAsWritten_xor_signMask_of_spill (i : Float32Bits) (ge : 113 ≤ (singleExp i).toNat)
    (odd : ((singleExp i).toNat - 112) / 2 ^ 5 % 2 ^ 1 = 1) :
    encodeAsWritten (i ^^^ 0x80000000#32) = encodeAsWritten i := by
  have exp := singleExp_xor_signMask i
  rw [encodeAsWritten_of_spill i ge odd, encodeAsWritten_of_spill _ (by rwa [exp]) (by rwa [exp]),
    narrowedExp_xor_signMask, keptMant_xor_signMask]

/-- R97 (b), as-written: elsewhere the sign is the operand's. -/
theorem encodeAsWritten_xor_signMask_of_no_spill (i : Float32Bits)
    (even : 113 ≤ (singleExp i).toNat → ((singleExp i).toNat - 112) / 2 ^ 5 % 2 ^ 1 = 0) :
    encodeAsWritten (i ^^^ 0x80000000#32) = encodeAsWritten i ^^^ 0x8000#16 := by
  have exp := singleExp_xor_signMask i
  by_cases flushed : (singleExp i).toNat < 113
  · rw [encodeAsWritten_of_lt i flushed, encodeAsWritten_of_lt _ (by rwa [exp]), singleSign_xor_signMask,
      halfOf_xor_signMask]
  · have ge := Nat.le_of_not_lt flushed
    rw [encodeAsWritten_of_no_spill i ge (even ge), encodeAsWritten_of_no_spill _ (by rwa [exp]) (by rw [exp, even ge]),
      singleSign_xor_signMask, narrowedExp_xor_signMask, keptMant_xor_signMask, halfOf_xor_signMask]

/-- R97 (b), effective-clamp. -/
theorem encodeEffectiveClamp_xor_signMask (i : Float32Bits) :
    encodeEffectiveClamp (i ^^^ 0x80000000#32) = encodeEffectiveClamp i ^^^ 0x8000#16 := by
  have exp := singleExp_xor_signMask i
  by_cases clamped : 143 ≤ (singleExp i).toNat
  · rw [encodeEffectiveClamp_of_ge i clamped, encodeEffectiveClamp_of_ge _ (by rwa [exp]), singleSign_xor_signMask,
      halfOf_xor_signMask]
  · have lt := Nat.lt_of_not_le clamped
    rw [encodeEffectiveClamp_of_lt i lt, encodeEffectiveClamp_of_lt _ (by rwa [exp]),
      encodeAsWritten_xor_signMask_of_no_spill i (fun _ => by omega)]

/-! ### The statements -/

/-- Settles O19: each row of the table is `d[4:0]` and `d[5]` on its range of `E8`. -/
theorem overflowSpillsIntoSignAndExponent : Obligations.OverflowSpillsIntoSignAndExponent := by
  intro s i as_written overflow
  have ge : 113 ≤ (singleExp i).toNat := by omega
  have exp := halfExp_encodeAsWritten_toNat i ge
  have gives := gives_encode s i
  rw [State.fp32ToFp16_of_asWritten as_written] at gives
  refine ⟨encodeAsWritten i, gives, halfMant_encodeAsWritten i ge, fun eq => ?_, fun from144 to175 => ?_,
    fun from176 to207 => ?_, fun from208 to239 => ?_, fun from240 => ?_⟩
  · exact ⟨by omega, halfSign_encodeAsWritten_of_no_spill i ge (by omega)⟩
  · exact ⟨by omega, halfSign_encodeAsWritten_of_spill i ge (by omega)⟩
  · exact ⟨by omega, halfSign_encodeAsWritten_of_no_spill i ge (by omega)⟩
  · exact ⟨by omega, halfSign_encodeAsWritten_of_spill i ge (by omega)⟩
  · exact ⟨by omega, halfSign_encodeAsWritten_of_no_spill i ge (by omega)⟩

/-- Settles O20: the exponent fields are 15 as-written and 30 with the effective clamp, never 31. -/
theorem encodeOfInfinityAndNanOperands : Obligations.EncodeOfInfinityAndNanOperands := by
  intro s i exp configured
  have exp_255 : (singleExp i).toNat = 255 := by
    rw [exp]
    rfl
  have as_written_eq (as_written : s.AsWritten) :
      fp32ToFp16 s.clampThreshold i = halfOf (singleSign i) 15#5 (keptMant i) := by
    rw [State.fp32ToFp16_of_asWritten as_written, encodeAsWritten_of_exp_255 i exp_255]
  have effective_eq (effective : s.EffectiveClamp) :
      fp32ToFp16 s.clampThreshold i = halfOf (singleSign i) 30#5 0x3FF#10 := by
    rw [State.fp32ToFp16_of_effectiveClamp effective, encodeEffectiveClamp_of_ge i (by omega)]
  have exp_ne : halfExp (fp32ToFp16 s.clampThreshold i) ≠ 31#5 := by
    obtain as_written | effective := configured
    · rw [as_written_eq as_written, halfExp_halfOf]
      decide
    · rw [effective_eq effective, halfExp_halfOf]
      decide
  obtain ⟨ne_infinity, ne_nan⟩ := ne_infinity_nan_of_halfExp exp_ne
  refine ⟨_, gives_encode s i, ne_infinity, ne_nan, fun as_written => ?_, fun effective => ?_⟩
  · rw [half_infinity_formula, as_written_eq as_written]
  · rw [half_clamp_formula, effective_eq effective]

/-- Settles O21. -/
theorem encodeReachesEveryHalfPattern : Obligations.EncodeReachesEveryHalfPattern := by
  intro s h as_written
  refine ⟨singleOf (halfSign h) ((halfExp h).setWidth 8 + 176#8) (halfMant h), ?_⟩
  rw [gives_encode_iff, State.fp32ToFp16_of_asWritten as_written, encodeAsWritten_singleOf_176, halfOf_fields]

/-- Settles O23. -/
theorem encodeSharesResultsByDiscardedBits : Obligations.EncodeSharesResultsByDiscardedBits := by
  intro s i j as_written i_ge i_le j_ge j_le
  refine ⟨_, _, gives_encode s i, gives_encode s j, ?_⟩
  rw [State.fp32ToFp16_of_asWritten as_written, State.fp32ToFp16_of_asWritten as_written,
    encodeAsWritten_eq_iff_of_normal i j i_ge i_le j_ge j_le]

/-- Settles O32. -/
theorem maximumMagnitudeResults : Obligations.MaximumMagnitudeResults := by
  intro s i
  refine ⟨_, gives_encode s i, fun as_written => ⟨State.eIsClamp_of_asWritten as_written i, ?asWritten⟩,
    ?positive, ?negative, fun effective => ⟨?effectiveClamp, fun ge => ?clamped⟩⟩
  case asWritten => rw [State.fp32ToFp16_of_asWritten as_written, encodeAsWritten_eq_maxMagnitude_iff]
  case effectiveClamp => rw [State.fp32ToFp16_of_effectiveClamp effective, encodeEffectiveClamp_eq_maxMagnitude_iff]
  case clamped => rw [State.fp32ToFp16_of_effectiveClamp effective, encodeEffectiveClamp_of_ge i ge, halfOf_clamp]
  all_goals
    intro as_written
    rintro rfl
    rw [as_written]
    decide

/-- Settles O34: the two ranges of `E8` are those where `d[5]` is one. -/
theorem encodeSignIndependence : Obligations.EncodeSignIndependence := by
  intro s i
  refine ⟨_, _, gives_encode s i, gives_encode s _, fun as_written => ?_, fun effective => ?_⟩
  · rw [State.fp32ToFp16_of_asWritten as_written, State.fp32ToFp16_of_asWritten as_written]
    split
    next spills => exact encodeAsWritten_xor_signMask_of_spill i (by omega) (by omega)
    next keeps => exact encodeAsWritten_xor_signMask_of_no_spill i (fun _ => by omega)
  · rw [State.fp32ToFp16_of_effectiveClamp effective, State.fp32ToFp16_of_effectiveClamp effective,
      encodeEffectiveClamp_xor_signMask]

end Sys2Proof.Machine
end

section
/-! SUPPORT. Proofs about the round trips of 44_byte_interface.md and 45_properties.md: `ENCODE` of `DECODE` on a word and through
the byte lanes, then the statements O22, O26, O27, O28, O35 and O36. -/

namespace Sys2Proof.Machine
open Sys2Proof.ClosedForm

/-! ### `ENCODE` of `DECODE` on a word -/

theorem encodeAsWritten_singleOf_zero (s : BitVec 1) : encodeAsWritten (singleOf s 0#8 0#10) = halfOf s 0#5 0#10 := by
  rw [encodeAsWritten_of_lt _ (by rw [singleExp_singleOf]; decide), singleSign_singleOf]

/-- Narrowing undoes widening (R92). -/
theorem encodeAsWritten_singleOf_widened (s : BitVec 1) {e : BitVec 5} (m : BitVec 10) (ne : e ≠ 0#5) :
    encodeAsWritten (singleOf s (widenedExp e) m) = halfOf s e m := by
  have exp_pos := toNat_pos_of_ne_zero ne
  have exp : (singleExp (singleOf s (widenedExp e) m)).toNat = e.toNat + 112 := by
    rw [singleExp_singleOf, widenedExp_toNat]
  rw [encodeAsWritten_of_normal _ (by omega) (by omega), singleSign_singleOf, keptMant_singleOf,
    narrowedExp_of_widened _ e (singleExp_singleOf _ _ _)]

/-- R92, as-written. -/
theorem encodeAsWritten_decode (h : Float16Bits) :
    encodeAsWritten (ClosedForm.decode h) = if halfExp h = 0#5 then halfOf (halfSign h) 0#5 0#10 else h := by
  split
  next zero => rw [decode_of_exp_zero h zero, encodeAsWritten_singleOf_zero]
  next ne => rw [decode_of_exp_ne_zero h ne, encodeAsWritten_singleOf_widened _ _ ne, halfOf_fields]

theorem singleExp_decode_toNat (h : Float16Bits) (ne : halfExp h ≠ 0#5) :
    (singleExp (ClosedForm.decode h)).toNat = (halfExp h).toNat + 112 := by
  rw [decode_of_exp_ne_zero h ne, singleExp_singleOf, widenedExp_toNat]

/-- Only `e5 = 31` is decoded to an operand that the effective clamp changes (R92). -/
theorem encodeEffectiveClamp_decode_of_ne (h : Float16Bits) (ne : halfExp h ≠ 31#5) :
    encodeEffectiveClamp (ClosedForm.decode h) = encodeAsWritten (ClosedForm.decode h) := by
  apply encodeEffectiveClamp_of_lt
  by_cases zero : halfExp h = 0#5
  · rw [(singleExp_decode_eq_zero_iff h).2 zero]
    decide
  · rw [Ne, ← BitVec.toNat_inj, BitVec.toNat_ofNat] at ne
    rw [singleExp_decode_toNat h zero]
    omega

theorem encodeEffectiveClamp_decode_of_eq (h : Float16Bits) (eq : halfExp h = 31#5) :
    encodeEffectiveClamp (ClosedForm.decode h) = halfOf (halfSign h) 30#5 0x3FF#10 := by
  have ne : halfExp h ≠ 0#5 := by
    rw [eq]
    decide
  have exp : (singleExp (ClosedForm.decode h)).toNat = 143 := by
    rw [singleExp_decode_toNat h ne, eq]
    rfl
  rw [encodeEffectiveClamp_of_ge _ (by omega), decode_of_exp_ne_zero h ne, singleSign_singleOf]

/-- R100: exactly the subnormal patterns do not come back as-written. -/
theorem encodeAsWritten_decode_eq_self_iff (h : Float16Bits) :
    encodeAsWritten (ClosedForm.decode h) = h ↔ ¬(halfExp h = 0#5 ∧ halfMant h ≠ 0#10) := by
  rw [encodeAsWritten_decode]
  split
  next zero =>
    rw [eq_comm, half_eq_halfOf_iff, and_iff_right rfl, and_iff_right zero, and_iff_right zero, not_not]
  next ne => exact iff_of_true rfl fun ⟨zero, _⟩ => ne zero

/-- The words in the effective clamp's image come back. -/
theorem encodeEffectiveClamp_decode_eq_self (h : Float16Bits) (ne : halfExp h ≠ 31#5)
    (zeroed : halfExp h = 0#5 → halfMant h = 0#10) : encodeEffectiveClamp (ClosedForm.decode h) = h := by
  rw [encodeEffectiveClamp_decode_of_ne h ne, encodeAsWritten_decode_eq_self_iff]
  exact fun ⟨zero, mant_ne⟩ => mant_ne (zeroed zero)

/-- Up to `E8 = 143` no result of the as-written configuration is a subnormal pattern (R100). -/
theorem encodeAsWritten_not_subnormal (i : Float32Bits) (le : (singleExp i).toNat ≤ 143) :
    ¬(halfExp (encodeAsWritten i) = 0#5 ∧ halfMant (encodeAsWritten i) ≠ 0#10) := by
  by_cases flushed : (singleExp i).toNat < 113
  · rw [encodeAsWritten_of_lt i flushed, halfMant_halfOf]
    exact fun ⟨_, ne⟩ => ne rfl
  · have ge := Nat.le_of_not_lt flushed
    rw [encodeAsWritten_of_normal i ge le, halfExp_halfOf]
    exact fun ⟨zero, _⟩ => narrowedExp_ne_zero i ge le zero

/-! ### The byte lanes -/

theorem bytesOf_sign (bytes : Wire16) :
    bytesOf (halfOf (halfSign (wordOf bytes)) 0#5 0#10) = ⟨0x00#8, bytes.byte1 &&& 0x80#8⟩ := by
  have masked : wordOf bytes &&& 0x8000#16 = wordOf ⟨0x00#8, bytes.byte1 &&& 0x80#8⟩ := by
    have mask : 0x8000#16 = 0x80#8 ++ 0x00#8 := by decide
    rw [wordOf_eq_append, wordOf_eq_append, mask, BitVec.and_append, BitVec.and_zero]
  rw [← half_and_signMask, masked, bytesOf_wordOf]

/-- R89 with R92: `ENCODE` of `DECODE` on the assembled word, emitted. -/
theorem bytesOf_encodeAsWritten_decode (bytes : Wire16) :
    bytesOf (encodeAsWritten (ClosedForm.decode (wordOf bytes))) =
      if bytes.byte1.extractLsb' 2 5 = 0#5 then ⟨0x00#8, bytes.byte1 &&& 0x80#8⟩ else bytes := by
  rw [encodeAsWritten_decode, halfExp_wordOf]
  split
  · exact bytesOf_sign bytes
  · exact bytesOf_wordOf bytes

/-! ### The statements -/

/-- Settles O22: a pattern in the image is the result for the word that it decodes to. -/
theorem encodeImageEffectiveClamp : Obligations.EncodeImageEffectiveClamp := by
  intro s h effective
  constructor
  · rintro ⟨i, gives⟩
    rw [gives_encode_iff, State.fp32ToFp16_of_effectiveClamp effective] at gives
    rw [gives]
    exact encodeEffectiveClamp_range i
  · rintro ⟨ne, zeroed⟩
    refine ⟨ClosedForm.decode h, ?_⟩
    rw [gives_encode_iff, State.fp32ToFp16_of_effectiveClamp effective,
      encodeEffectiveClamp_decode_eq_self h ne zeroed]

/-- Settles O26. -/
theorem wireRoundTrip : Obligations.WireRoundTrip := by
  intro s bytes as_written
  refine ⟨_, gives_resultOf s (.decodeBytes bytes), ?_⟩
  rw [gives_iff_resultOf, resultOf, State.fp32ToFp16_of_asWritten as_written, fp16ToFp32_eq_decode,
    bytesOf_encodeAsWritten_decode]

/-- Settles O27: the byte lanes carry the word. -/
theorem bytesCarryTheEncodedWord : Obligations.BytesCarryTheEncodedWord := by
  intro s value
  refine ⟨_, _, _, gives_resultOf s (.encodeBytes value), gives_resultOf s (.decodeBytes _), gives_encode s value, ?_⟩
  rw [wordOf_bytesOf]
  exact gives_resultOf s (.decode _)

/-- Settles O28. -/
theorem halfRoundTrip : Obligations.HalfRoundTrip := by
  intro s h
  refine ⟨_, _, gives_decode s h, gives_encode s _, fun as_written => ?_, fun effective => ?_⟩
  · rw [State.fp32ToFp16_of_asWritten as_written, encodeAsWritten_decode, half_and_signMask]
  · rw [State.fp32ToFp16_of_effectiveClamp effective, half_and_signMask]
    by_cases infinite : halfExp h = 31#5
    · have ne : halfExp h ≠ 0#5 := by
        rw [infinite]
        decide
      rw [encodeEffectiveClamp_decode_of_eq h infinite, if_neg ne, if_pos infinite, ← halfOf_sign, half_clamp_formula]
    · rw [encodeEffectiveClamp_decode_of_ne h infinite, encodeAsWritten_decode, if_neg infinite]

/-- Settles O35: below `E8 = 143` both configurations give the as-written word. -/
theorem truncationLaw : Obligations.TruncationLaw := by
  intro s i
  have as_written_word (configured : s.AsWritten ∨ s.EffectiveClamp) (lt : (singleExp i).toNat < 143) :
      fp32ToFp16 s.clampThreshold i = encodeAsWritten i := by
    obtain as_written | effective := configured
    · exact State.fp32ToFp16_of_asWritten as_written i
    · rw [State.fp32ToFp16_of_effectiveClamp effective, encodeEffectiveClamp_of_lt i lt]
  refine ⟨_, _, gives_encode s i, gives_decode s _, fun configured ge le => ?_, fun as_written eq => ?_,
    fun configured lt => ?_⟩
  · rw [as_written_word configured (by omega), decode_encodeAsWritten_of_normal i ge (by omega)]
  · rw [State.fp32ToFp16_of_asWritten as_written, decode_encodeAsWritten_of_normal i (by omega) (by omega)]
  · rw [as_written_word configured (by omega), decode_encodeAsWritten_of_lt i lt]

/-- Settles O36: as-written a subnormal pattern does not come back, and none results up to `E8 = 143`; the effective clamp's
whole image comes back. -/
theorem reEncoding : Obligations.ReEncoding := by
  intro s i
  refine ⟨_, _, _, gives_encode s i, gives_decode s _, gives_encode s _, fun as_written => ?_, fun effective => ?_⟩
  · rw [State.fp32ToFp16_of_asWritten as_written, State.fp32ToFp16_of_asWritten as_written,
      encodeAsWritten_decode_eq_self_iff]
    exact ⟨.inr, fun either => either.elim (encodeAsWritten_not_subnormal i) id⟩
  · obtain ⟨ne, zeroed⟩ := encodeEffectiveClamp_range i
    rw [State.fp32ToFp16_of_effectiveClamp effective, State.fp32ToFp16_of_effectiveClamp effective,
      encodeEffectiveClamp_decode_eq_self _ ne zeroed]

end Sys2Proof.Machine
end

section
/-! SUPPORT. Proofs about steps and runs (70_reset_and_hazards.md): what a step and one operation more in a run can do, said once;
every result is the one the spec gives; then the statements O46, O47, O48, O50, O51, O49, O53 and O52. -/

namespace Sys2Proof.Machine
open Sys2Proof.ClosedForm

/-! ### A step -/

/-- The state after an operation: its operand on its port and its result taken. -/
def State.after (s : State) (i : Instr) : State := (s.driven i).take i (resultOf s.clampThreshold i)

@[simp] theorem State.after_clampThreshold (s : State) (i : Instr) : (s.after i).clampThreshold = s.clampThreshold := by
  simp [State.after]
@[simp] theorem State.after_pending (s : State) (i : Instr) : (s.after i).pending = s.pending := by simp [State.after]
@[simp] theorem State.after_transcript (s : State) (i : Instr) :
    (s.after i).transcript = s.transcript ++ [⟨i, resultOf s.clampThreshold i⟩] := by simp [State.after]

theorem exec_eq_after (i : Instr) (s : State) : exec i s = .next (s.after i) := exec_eq_take i s

theorem step_of_nil (s : State) (nothing : s.pending = []) : step s = .next s := by rw [step, nothing]

theorem step_of_ok (s : State) {st : Stimulus} {rest : List Stimulus} {i : Instr} (presented : s.pending = st :: rest)
    (selects : decodeStimulus st = .ok i) : step s = exec i (s.withPending rest) := by
  simp only [step, presented, selects]

theorem step_of_error (s : State) {st : Stimulus} {rest : List Stimulus} {reason : Reject}
    (presented : s.pending = st :: rest) (rejected : decodeStimulus st = .error reason) :
    step s = .refused (.notAnOperand reason) := by
  simp only [step, presented, rejected]

/-- All that a step that answers a next state can do. -/
theorem step_next_cases {s t : State} (answers : step s = .next t) :
    (s.pending = [] ∧ t = s) ∨
    ∃ st rest i, s.pending = st :: rest ∧ decodeStimulus st = .ok i ∧ t = (s.withPending rest).after i := by
  cases presented : s.pending with
  | nil =>
    rw [step_of_nil s presented, Host.Outcome.next.injEq] at answers
    exact .inl ⟨rfl, answers.symm⟩
  | cons st rest =>
    cases selects : decodeStimulus st with
    | ok i =>
      rw [step_of_ok s presented selects, exec_eq_after, Host.Outcome.next.injEq] at answers
      exact .inr ⟨st, rest, i, rfl, selects, answers.symm⟩
    | error reason =>
      rw [step_of_error s presented selects] at answers
      cases answers

theorem step_keeps_clampThreshold {s t : State} (answers : step s = .next t) : t.clampThreshold = s.clampThreshold := by
  obtain ⟨-, rfl⟩ | ⟨st, rest, i, -, -, rfl⟩ := step_next_cases answers
  · rfl
  · simp

/-! ### The spec's results -/

/-- In the as-written configuration the result of an operation is the one that the spec gives it. -/
theorem agrees_resultOf (i : Instr) : Agrees i (resultOf 0x8E000000#32 i) := by
  have as_written (v : Float32Bits) : fp32ToFp16 0x8E000000#32 v = encodeAsWritten v :=
    fp32ToFp16_eq_encodeAsWritten _ v (by decide)
  cases i with
  | resampleUp x => exact ⟨_, rfl, resampleUp_toNat x⟩
  | resampleDown x => exact ⟨_, rfl, resampleDown_toNat x⟩
  | biasUp x => exact ⟨_, rfl, biasUp_toNat x⟩
  | biasDown x => exact ⟨_, rfl, biasDown_toNat_of_le x⟩
  | decode h => rw [Agrees, resultOf, fp16ToFp32_eq_decode]
  | encode v => rw [Agrees, resultOf, as_written]
  | decodeBytes bytes => rw [Agrees, resultOf, fp16ToFp32_eq_decode, wordOf_eq_append]
  | encodeBytes v => rw [Agrees, resultOf, as_written, bytesOf]

theorem TranscriptSound.after {s : State} (sound : TranscriptSound s) (i : Instr) : TranscriptSound (s.after i) := by
  obtain ⟨as_written, agrees⟩ := sound
  refine ⟨(s.after_clampThreshold i).trans as_written, fun done taken => ?_⟩
  rw [State.after_transcript, List.mem_append, List.mem_singleton] at taken
  obtain earlier | rfl := taken
  · exact agrees done earlier
  · rw [as_written]
    exact agrees_resultOf i

/-! ### Runs -/

theorem runsTo_zero {s t : State} : RunsTo 0 s t ↔ t = s := by
  constructor
  · rintro ⟨⟩
    rfl
  · rintro rfl
    rfl

theorem run_succ_of_next {s u : State} (k : Nat) (answers : core.step s = .next u) :
    Host.Core.run core (k + 1) s = Host.Core.run core k u := by
  simp only [Host.Core.run, answers]

theorem run_succ_of_refused {s : State} {reason : Refusal} (k : Nat) (stops : core.step s = .refused reason) :
    Host.Core.run core (k + 1) s = .refused reason := by
  simp only [Host.Core.run, stops]

/-- A run of one step more is a step that answers and a run from there. -/
theorem runsTo_succ {k : Nat} {s t : State} : RunsTo (k + 1) s t ↔ ∃ u, step s = .next u ∧ RunsTo k u t := by
  constructor
  · intro runs
    cases answers : step s with
    | next u => exact ⟨u, rfl, (run_succ_of_next k answers).symm.trans runs⟩
    | fault reason => cases reason
    | refused reason => cases (run_succ_of_refused k answers).symm.trans runs
  · rintro ⟨u, answers, runs⟩
    exact (run_succ_of_next k answers).trans runs

theorem State.PresentsOperands.step {s : State} (operands : s.PresentsOperands) :
    ∃ t, step s = .next t ∧ t.PresentsOperands := by
  cases presented : s.pending with
  | nil => exact ⟨s, step_of_nil s presented, operands⟩
  | cons st rest =>
    rw [State.PresentsOperands, presented, List.forall_mem_cons] at operands
    obtain ⟨well_formed, rest_operands⟩ := operands
    have selects := decodeStimulus_of_wellFormed st well_formed
    refine ⟨_, (step_of_ok s presented selects).trans (exec_eq_after _ _), ?_⟩
    simpa [State.PresentsOperands] using rest_operands

/-! ### The statements -/

/-- Settles O46. -/
theorem stepPerformsPresentedOperation : Obligations.StepPerformsPresentedOperation :=
  fun s _ _ _ presented selects => step_of_ok s presented selects

/-- Settles O47. -/
theorem nothingPresentedChangesNothing : Obligations.NothingPresentedChangesNothing := step_of_nil

/-- Settles O48: a presentation that is not well formed does not decode. -/
theorem illFittingPresentationIsRefused : Obligations.IllFittingPresentationIsRefused := by
  intro s st rest presented ill_formed
  obtain ⟨reason, rejected⟩ := decodeStimulus_of_not_wellFormed st ill_formed
  exact ⟨reason, step_of_error s presented rejected⟩

/-- Settles O50: a step takes at most one result, and that is the spec's. -/
theorem stepKeepsTranscriptSound : Obligations.StepKeepsTranscriptSound := by
  intro s t sound answers
  obtain ⟨-, rfl⟩ | ⟨st, rest, i, -, -, rfl⟩ := step_next_cases answers
  · exact sound
  · have sound_rest : TranscriptSound (s.withPending rest) := sound
    exact sound_rest.after i

/-- Settles O51: nothing has been taken yet. -/
theorem resetTranscriptSound : Obligations.ResetTranscriptSound :=
  ⟨⟨rfl, fun _ taken => absurd taken List.not_mem_nil⟩, rfl, rfl⟩

/-- Settles O49, by induction on the number of steps. -/
theorem parameterIsFixedForLife : Obligations.ParameterIsFixedForLife := by
  refine ⟨rfl, fun k => ?_⟩
  induction k with
  | zero =>
    intro s t runs
    rw [runsTo_zero.1 runs]
  | succ k ih =>
    intro s t runs
    obtain ⟨u, answers, runs_on⟩ := runsTo_succ.1 runs
    exact (ih u t runs_on).trans (step_keeps_clampThreshold answers)

/-- Settles O53, by induction on the number of steps. -/
theorem operandsNeverStopARun : Obligations.OperandsNeverStopARun := by
  intro k
  induction k with
  | zero => exact fun s operands => ⟨s, runsTo_zero.2 rfl, operands⟩
  | succ k ih =>
    intro s operands
    obtain ⟨u, answers, u_operands⟩ := operands.step
    obtain ⟨t, runs, t_operands⟩ := ih u u_operands
    exact ⟨t, runsTo_succ.2 ⟨u, answers, runs⟩, t_operands⟩

/-- Settles O52, by induction on the list of operations: the first step performs the first of them, and its result comes before
those of the rest. -/
theorem runTakesEveryResult : Obligations.RunTakesEveryResult := by
  intro ops rest
  induction ops with
  | nil => exact fun s _ pending => ⟨s, [], runsTo_zero.2 rfl, pending, by simp, rfl, by simp⟩
  | cons i ops ih =>
    intro s as_written pending
    have answers : step s = .next ((s.withPending (ops.map encodeInstr ++ rest)).after i) :=
      (step_of_ok s pending (decodeStimulus_encodeInstr i)).trans (exec_eq_after i _)
    obtain ⟨t, taken, runs, t_pending, transcript, taken_ops, agrees⟩ :=
      ih ((s.withPending (ops.map encodeInstr ++ rest)).after i)
        ((State.after_clampThreshold _ i).trans as_written) (by simp)
    refine ⟨t, ⟨i, resultOf s.clampThreshold i⟩ :: taken, runsTo_succ.2 ⟨_, answers, runs⟩, t_pending, ?_, ?_, ?_⟩
    · simpa using transcript
    · rw [List.map_cons, taken_ops]
    · rw [List.forall_mem_cons, as_written]
      exact ⟨agrees_resultOf i, agrees⟩

end Sys2Proof.Machine
end

section
/-! SUPPORT. Proofs about the machine as a whole (10_state.md, 20_memory.md): what an operation's result and its input port depend
on, then the statements O38 to O42. -/

namespace Sys2Proof.Machine

/-- Only the two encoding operations read the parameter (R11, R24). -/
theorem resultOf_congr (threshold threshold' : U32) (i : Instr)
    (unread : ∀ v : Float32Bits, i ≠ .encode v ∧ i ≠ .encodeBytes v) : resultOf threshold i = resultOf threshold' i := by
  cases i with
  | encode v => exact absurd rfl (unread v).1
  | encodeBytes v => exact absurd rfl (unread v).2
  | resampleUp x | resampleDown x | biasUp x | biasDown x | decode x | decodeBytes x => rfl

/-- Driving a port with the pattern that it carries changes nothing. -/
theorem State.driven_take_driven_ports (s : State) (i : Instr) (r : Result) :
    (((s.driven i).take i r).driven i).ports = (s.driven i).ports := by
  cases i <;> rfl

theorem State.after_after_transcript (s : State) (i j : Instr) :
    ((s.after i).after j).transcript =
      s.transcript ++ [⟨i, resultOf s.clampThreshold i⟩, ⟨j, resultOf s.clampThreshold j⟩] := by
  simp

/-- All that an operation that answers a next state can do. -/
theorem eq_after_of_exec {i : Instr} {s t : State} (answers : exec i s = .next t) : t = s.after i := by
  rw [exec_eq_after, Host.Outcome.next.injEq] at answers
  exact answers.symm

/-! ### The statements -/

/-- Settles O38. -/
theorem resultDependsOnOperandAlone : Obligations.ResultDependsOnOperandAlone := by
  intro i s t r same gives
  rw [gives_iff_resultOf] at gives ⊢
  obtain same_parameter | unread := same
  · rw [gives, same_parameter]
  · rw [gives, resultOf_congr _ _ i unread]

/-- Settles O39: the port is read off the operation's row; the byte lanes put the two bytes on `h_in` as one word. -/
theorem operationFrame : Obligations.OperationFrame := by
  intro i s t answers
  rw [eq_after_of_exec answers]
  refine ⟨s.after_clampThreshold i, s.after_pending i, ⟨_, s.after_transcript i⟩, ?ports⟩
  cases i with
  | decodeBytes bytes => exact congrArg (fun word => { s.ports with hIn := word }) (wordOf_eq_append bytes)
  | resampleUp x | resampleDown x | biasUp x | biasDown x | decode x | encode x | encodeBytes x => rfl

/-- Settles O40: the result taken is the function of the port that the operation drives, which is what its output shows. -/
theorem outputPortShowsResult : Obligations.OutputPortShowsResult := by
  intro i s t answers
  rw [eq_after_of_exec answers]
  refine ⟨_, s.after_transcript i, ?_⟩
  cases i with
  | resampleUp x | resampleDown x | biasUp x | biasDown x => exact ⟨rfl, rfl, rfl⟩
  | decode x | encode x | decodeBytes x | encodeBytes x => exact ⟨rfl, rfl⟩

/-- Settles O41: neither operation changes the parameter, all that the other's result depends on beside its operand. -/
theorem operationOrderDoesNotMatter : Obligations.OperationOrderDoesNotMatter :=
  fun i j s => ⟨_, _, _, _, _, _, exec_eq_after i s, exec_eq_after j _, exec_eq_after j s, exec_eq_after i _,
    s.after_after_transcript i j, s.after_after_transcript j i⟩

/-- Settles O42. -/
theorem repeatedOperationIsIdempotent : Obligations.RepeatedOperationIsIdempotent := by
  intro i s t answers
  rw [eq_after_of_exec answers]
  exact ⟨_, _, exec_eq_after i _, s.driven_take_driven_ports i _, s.after_after_transcript i i⟩

end Sys2Proof.Machine
end
